-- ==== Sys2Proof/Word.lean ====
section
/-! DEFINITION. The plainest types of the WBC-24 model: a byte, a counter, and a pair of things kept for
the two heads (or the two lanes of the same numbers). -/

namespace Sys2Proof

/-- One byte of a frame, a parcel, a stored record or a panel line character. -/
abbrev Byte := BitVec 8

/-- A counter of COUNTERS_READ: 16 bits wide (Section 0.5.4). Saturation is `Machine.inc`. -/
abbrev Count := BitVec 16

/-- Number 0 or 1 of a head, a lane or a bond monitor channel; lane h serves head h (Chapter 1). -/
inductive Side where
  | zero
  | one
  deriving DecidableEq, Repr

/-- The number of a head or lane. -/
def Side.toNat : Side → Nat
  | .zero => 0
  | .one => 1

/-- The other head or lane. -/
def Side.other : Side → Side
  | .zero => .one
  | .one => .zero

/-- One thing for each head (or lane). -/
structure Two (α : Type) where
  /-- that of head or lane 0 -/
  zero : α
  /-- that of head or lane 1 -/
  one : α
  deriving DecidableEq, Repr

/-- The thing of side `h`. -/
def Two.get {α : Type} (t : Two α) : Side → α
  | .zero => t.zero
  | .one => t.one

/-- Replace the thing of side `h`. -/
def Two.set {α : Type} (t : Two α) (h : Side) (x : α) : Two α :=
  match h with
  | .zero => { t with zero := x }
  | .one => { t with one := x }

/-- The same thing for both sides. -/
def Two.both {α : Type} (x : α) : Two α := ⟨x, x⟩

end Sys2Proof
end

