-- ==== Sys2Proof/Config.lean ====
section
/-! DEFINITION. The free values of the model: uninterpreted constants that no proof can evaluate. -/

namespace Sys2Proof

/-- What the record store SRAM holds at an address that the part has not written: R32 and R66 say that
it is whatever the memory holds. A free value, one for each address, so that two reads of one unwritten
byte agree. Log entry 1. -/
opaque Config.sramPowerUp : Nat → Byte

/-- What stands behind the command code, status and reason of a REPLY whose payload would come to more than
the 240 bytes of a parcel (Section 8.2). The spec gives STATUS_READ data that can be that long (R178, R186)
and does not say what is then sent. A free value, of which at most 237 bytes are sent. Log entry 2. -/
opaque Config.overlongPayload : List Byte → List Byte

end Sys2Proof
end

