-- ==== Sys2Proof/Syntax.lean ====
section
/-! DEFINITION. The commands of the block: one constructor of `Instr` for each row of
spec/opcode_table.json, with the operands that the environment supplies with the event. -/

namespace Sys2Proof

/-- A frame of the cell ring (Section 10.2): the seven header bytes as fields, the parcel area byte for
byte, and the stored frame check. -/
structure Frame where
  /-- cycle number, bytes 0 and 1 -/
  cycle : BitVec 16
  /-- capacity of the parcel area, bytes 2 and 3 -/
  capacity : BitVec 16
  /-- used length of the parcel area, bytes 4 and 5 -/
  used : BitVec 16
  /-- flags, byte 6: bit 0 is the damaged mark -/
  flags : Byte
  /-- the parcel area, `capacity` bytes from byte 7 on, free room included -/
  area : List Byte
  /-- the frame check, the last four bytes -/
  check : BitVec 32
  deriving DecidableEq, Repr

/-- A character completed on the shared receive pair of the panel line (R137, R139), as the levels on
the line: the receiver works out its two error marks from the line settings. -/
structure RxChar where
  /-- the 8 data bits -/
  data : Byte
  /-- the address flag bit -/
  addr : Bool
  /-- the level of the parity bit; not read when the settings give no parity bit -/
  parity : Bool
  /-- the first stop bit is at the idle level -/
  stop1 : Bool
  /-- the second stop bit is at the idle level; not read when the settings give one stop bit -/
  stop2 : Bool
  /-- how many PANEL_CONFIG of the line form were taken since reception began; the character finishes at the
  settings of before the first of them (R143) -/
  formsSince : Nat
  deriving DecidableEq, Repr

/-- The commands of the block, one for each row of spec/opcode_table.json. -/
inductive Instr where
  /-- POWER_ON_RESET (R161): the RESET input, with the levels of STA4 to STA0 as the reset ends. -/
  | powerOnReset (straps : BitVec 5)
  /-- MINUTE_TICK (R1): part time crosses the next multiple of 60,000 ms. -/
  | minuteTick
  /-- PULL_EXPIRY (R105): one pending pull that is due expires. -/
  | pullExpiry
  /-- FRAME_ARRIVAL (R158): a frame arrives on RING_IN. -/
  | frameArrival (f : Frame)
  /-- RING_WATCHDOG_EXPIRY (R170): the ring timeout passes without a good frame. -/
  | ringWatchdogExpiry
  /-- ACCESS_COMPLETE (R49): the store access in progress completes. -/
  | accessComplete
  /-- ACCESS_TIMEOUT (R60): the store timeout of the access in progress expires. -/
  | accessTimeout
  /-- MESSAGE_SENT (R138): the last character of the message being sent leaves the shift register. -/
  | messageSent
  /-- CHARACTER_RECEIVED (R139): a character is completed on the receive pair. -/
  | characterReceived (c : RxChar)
  /-- REPLY_WINDOW_CLOSE (R141): the reply timeout of the open window expires. -/
  | replyWindowClose
  /-- REST_END (R144): the rest after a pass without turns ends. -/
  | restEnd
  deriving DecidableEq, Repr

end Sys2Proof
end

