-- ==== Sys2Proof/Machine/State.lean ====
section
/-! DEFINITION. The state of the WBC-24: one structure for each block of Section 0.3, every piece of state
that the spec names, the external SRAM of the record store, and the queue of waiting commands. -/

namespace Sys2Proof.Machine

/-! ## Values shared by several blocks -/

/-- The phase of a bond (Section 1.2). -/
inductive Phase where
  | ball
  | stitch
  deriving DecidableEq, Repr

/-- The verdicts, in the order of the table of R18. -/
inductive Verdict where
  | unmapped
  | noProgram
  | incomplete
  | short
  | noContact
  | nonStick
  | lowEnergy
  | highEnergy
  | lowDeform
  | highDeform
  | pass
  deriving DecidableEq, Repr

/-- The fail action of a phase window (R29). -/
inductive FailAction where
  | log
  | hold
  | holdReject
  deriving DecidableEq, Repr

/-- A reference to a unit: strip number and unit index (Section 1.2). -/
structure UnitRef where
  strip : BitVec 16
  unit : Nat
  deriving DecidableEq, Repr

/-- The key of a wire map entry: bank and wire (R32). -/
structure MapKey where
  bank : Fin 4
  wire : Nat
  deriving DecidableEq, Repr

/-- The fields of a wire map entry (R32); pull class `none` is NONE. -/
structure MapEntry where
  valid : Bool
  ball : Fin 64
  stitch : Fin 64
  pullClass : Option (Fin 8)
  deriving DecidableEq, Repr

/-- How a lookup resolves (Section 1.2, R41). -/
inductive Resolution where
  | entry (e : MapEntry)
  | unmapped
  | storeFault
  deriving DecidableEq, Repr

/-! ## Bond Monitor (Chapter 1, Section 2.1) -/

/-- The lookup state of a context (Section 1.2). -/
inductive LookupState where
  | pending
  | waitingForFetchPlace
  | resolved (r : Resolution)
  deriving DecidableEq, Repr

/-- The marks of a context (Section 1.2), in the order of the bond record's mark byte (Section 10.5). -/
structure Marks where
  gapped : Bool := false
  truncated : Bool := false
  lateClose : Bool := false
  rebound : Bool := false
  clamped : Bool := false
  noDrive : Bool := false
  noUnit : Bool := false
  store : Bool := false
  deriving DecidableEq, Repr

/-- What a JUDGED context also holds (Section 1.2, R14 to R18), with the fail action that the window held
at judgement (R22; not used when the verdict is UNMAPPED, NO_PROGRAM or PASS). -/
structure Judgement where
  group : Option (Fin 64)
  energy : Nat
  deform : Nat
  stick : Nat
  verdict : Verdict
  /-- every failing check, in the order of the table of R18 -/
  faults : List Verdict
  action : FailAction
  deriving DecidableEq, Repr

/-- The states of a context that is in use; a FREE context is `none` in its channel (R5). -/
inductive CtxState where
  | opened
  | closed
  | judged (j : Judgement)
  deriving DecidableEq, Repr

/-- A bond context in use (the table of Section 1.2). -/
structure Context where
  head : Side
  sequence : BitVec 16
  phase : Phase
  wire : Nat
  unitRef : Option UnitRef
  bank : Fin 4
  touchdown : Nat
  /-- accepted sample count n -/
  accepted : Nat
  /-- next expected index e -/
  expected : Nat
  /-- accumulator A -/
  power : Nat
  /-- first-eight current sum F8 -/
  firstEight : Nat
  /-- last-eight current window, oldest first -/
  lastEight : List Nat
  /-- touchdown height z0 -/
  z0 : Option Nat
  lastHeight : Option Nat
  marks : Marks
  closedByOpen : Bool
  lookup : LookupState
  state : CtxState
  deriving DecidableEq, Repr

/-- The counters of a channel (R28), in the order of its table. -/
structure ChannelCounters where
  unmonitored : Count := 0
  lateSamples : Count := 0
  malformed : Count := 0
  strayCloses : Count := 0
  outsideUnit : Count := 0
  issued : Count := 0
  failed : Count := 0
  deriving DecidableEq, Repr

/-- The last-issue values of a channel (R3). -/
structure LastIssue where
  verdict : Verdict
  energy : Nat
  deform : Nat
  deriving DecidableEq, Repr

/-- A bond monitor channel (R3). -/
structure Channel where
  on : Bool := true
  /-- the four contexts; `none` is FREE -/
  contexts : Vector (Option Context) 4 := Vector.replicate 4 none
  /-- the bond order list, oldest first (R4) -/
  order : List (Fin 4) := []
  /-- the two write slots: the record number whose write occupies the slot (R21) -/
  slots : Two (Option (BitVec 32)) := Two.both none
  counters : ChannelCounters := {}
  last : Option LastIssue := none
  deriving DecidableEq, Repr

/-- A phase window of a bond group (R29), at its power-on values by default. -/
structure PhaseWindow where
  energyMin : Nat := 0
  energyMax : Nat := 0
  deformMin : Nat := 0
  deformMax : Nat := 0
  stickBand : Nat := 0
  minSamples : Nat := 16
  action : FailAction := .log
  deriving DecidableEq, Repr

/-- A bond group (R29). -/
structure BondGroup where
  valid : Bool := false
  ball : PhaseWindow := {}
  stitch : PhaseWindow := {}
  deriving DecidableEq, Repr

/-- The Bond Monitor: two channels and the Bond Program Table. -/
structure BondMonitor where
  channels : Two Channel := Two.both {}
  groups : Vector BondGroup 64 := Vector.replicate 64 {}
  deriving DecidableEq, Repr

/-! ## Map cache (Sections 2.3 to 2.7) -/

/-- The party that handed a lookup in (R40): a bond context, or the Pull Record Unit. -/
inductive Party where
  | ctx (h : Side) (i : Fin 4)
  | pull
  deriving DecidableEq, Repr

/-- A lookup: its party and its place in the order in which lookups were started (R38). -/
structure Waiter where
  party : Party
  start : Nat
  deriving DecidableEq, Repr

/-- A cached-valid slot (R36). -/
structure CacheSlot where
  key : MapKey
  entry : MapEntry
  deriving DecidableEq, Repr

/-- A fetch in flight (R37). -/
structure Fetch where
  key : MapKey
  stale : Bool
  waiters : List Waiter
  deriving DecidableEq, Repr

/-- A lookup on the place-wait list (R38). -/
structure PlaceWait where
  key : MapKey
  waiter : Waiter
  deriving DecidableEq, Repr

/-- The counters of the map cache (R48), in the order of its table. -/
structure MapCounters where
  hits : Count := 0
  joins : Count := 0
  fetches : Count := 0
  placeWaits : Count := 0
  prefetches : Count := 0
  staleFetches : Count := 0
  fetchFaults : Count := 0
  deriving DecidableEq, Repr

/-- The map cache (R36 to R38). -/
structure MapCache where
  /-- the 16 slots; `none` is a slot that is not cached-valid -/
  slots : Vector (Option CacheSlot) 16 := Vector.replicate 16 none
  fill : Fin 16 := 0
  fetches : List Fetch := []
  placeWait : List PlaceWait := []
  counters : MapCounters := {}
  /-- the model's own: how many lookups have been started, which gives each its start order (R38) -/
  started : Nat := 0
  deriving DecidableEq, Repr

/-! ## Record Store Controller (Chapter 3) -/

/-- The store states (Section 3.3), in the order of the table. -/
inductive StoreState where
  | off
  | ready
  | busy
  | draining
  deriving DecidableEq, Repr

/-- The transfer width of the store port. -/
inductive Width where
  | eight
  | sixteen
  deriving DecidableEq, Repr

/-- The store configuration (Section 3.2). `none` is the value "none" of the power-on column. -/
structure StoreConfig where
  width : Option Width := none
  readyUsed : Bool := false
  accessTime : Option Nat := none
  timeout : Option Nat := none
  mapBase : Nat := 0
  bondBase : Nat := 0
  bondCap : Nat := 0
  pullBase : Nat := 0
  pullCap : Nat := 0
  deriving DecidableEq, Repr

/-- A region that RECORD_READ names (R68). -/
inductive Region where
  | bondRing
  | pullLog
  deriving DecidableEq, Repr

/-- The requester class of a request (R57), with what its requester needs to know it by. -/
inductive ReqKind where
  | mapFetch (key : MapKey)
  | bondWrite (h : Side) (slot : Side)
  | bondRead (phase : Phase) (k : BitVec 32)
  | pullWrite
  | mapWrite
  | mapRead
  | recordRead (region : Region) (k : BitVec 32)
  deriving DecidableEq, Repr

/-- A request of the store queue (R57). -/
structure Request where
  kind : ReqKind
  addr : Nat
  len : Nat
  /-- the item written; empty for a read -/
  data : List Byte
  /-- withdrawn by a work restart while at the head (R69) -/
  withdrawn : Bool := false
  deriving DecidableEq, Repr

/-- The first-fault record when it is full (R61): address, requester class code, part time. -/
structure FirstFault where
  addr : Nat
  cls : Nat
  time : BitVec 32
  deriving DecidableEq, Repr

/-- The counters of the Record Store Controller (R70). -/
structure StoreCounters where
  timeouts : Count := 0
  faulted : Count := 0
  notYet : Count := 0
  lost : Count := 0
  deriving DecidableEq, Repr

/-- The Record Store Controller (Chapter 3). -/
structure RecordStore where
  config : StoreConfig := {}
  state : StoreState := .off
  queue : List Request := []
  /-- how many accesses of the head request have completed; the next one is in progress while the store
  is BUSY or DRAINING (R49, R50) -/
  done : Nat := 0
  /-- the bytes that the completed read accesses of the head request delivered -/
  got : List Byte := []
  /-- next bond number (R63) -/
  wb : BitVec 32 := 0
  /-- next pull number (R64) -/
  wp : BitVec 32 := 0
  firstFault : Option FirstFault := none
  counters : StoreCounters := {}
  deriving DecidableEq, Repr

/-! ## Strip Tracker (Chapter 4) -/

/-- The statuses of a unit (R83). -/
inductive UnitStatus where
  | pending
  | skip
  | active
  | closing
  | good
  | suspect
  | reject
  deriving DecidableEq, Repr

/-- An entry of a strip's unit list (R83). -/
structure UnitEntry where
  status : UnitStatus
  suspectMark : Bool := false
  rejectMark : Bool := false
  wiresBonded : Option Nat := none
  refs : Nat := 0
  deriving DecidableEq, Repr

/-- An entry of a sample selection (R100). -/
structure SelEntry where
  unit : Nat
  wire : Nat
  pullClass : Option (Fin 8)
  ball : Option (BitVec 32)
  stitch : Option (BitVec 32)
  deriving DecidableEq, Repr

/-- A strip record outside the pool (Section 4.2). Its position is the place that holds it: a field of
its lane, or the purged list. -/
structure Strip where
  number : BitVec 16
  slot : Nat
  lane : Side
  /-- the mark, absent when empty -/
  mark : List Byte := []
  units : List UnitEntry := []
  sampled : Bool := false
  selection : List SelEntry := []
  passed : Count := 0
  failed : Count := 0
  arrived : Bool := false
  deriving DecidableEq, Repr

/-- A state of a slot of the input magazine (R75). -/
inductive InSlot where
  | unknown
  | empty
  | loaded
  | pulled
  deriving DecidableEq, Repr

/-- A state of a slot of an output magazine (R76). -/
inductive OutSlot where
  | unknown
  | empty
  | filled (strip : BitVec 16)
  | filledForeign
  deriving DecidableEq, Repr

/-- A deferred ask: the source station and the tag of its reply. -/
structure Ask where
  station : Byte
  tag : Byte
  deriving DecidableEq, Repr

/-- A deferred FEED_ASK (R78). -/
structure FeedAsk where
  ask : Ask
  starved : Bool
  deriving DecidableEq, Repr

/-- A lane configuration (R71). -/
structure LaneConfig where
  units : Nat := 1
  wires : Nat := 1
  bank : Fin 4 := 0
  touchdown : Nat := 2047
  deriving DecidableEq, Repr

/-- A lane with what the Strip Tracker holds for it and for the head it serves. -/
structure Lane where
  config : LaneConfig := {}
  configured : Bool := false
  enabled : Bool := false
  pulling : Option Strip := none
  pre : Option Strip := none
  bond : Option Strip := none
  exit : Option Strip := none
  feedAsk : Option FeedAsk := none
  moveAsk : Option Ask := none
  unitAsk : Option Ask := none
  outMap : Vector OutSlot 40 := Vector.replicate 40 .unknown
  deriving DecidableEq, Repr

/-- The elevator (R79): IDLE, or BUSY for a lane and the record it carries (named by strip number). -/
inductive Elevator where
  | idle
  | busy (lane : Side) (strip : BitVec 16)
  deriving DecidableEq, Repr

/-- The counters of the Strip Tracker (R95). -/
structure StripCounters where
  starvations : Count := 0
  untrackedArrivals : Count := 0
  strayEnds : Count := 0
  abandoned : Count := 0
  untrackedRemovals : Count := 0
  magIgnored : Count := 0
  deriving DecidableEq, Repr

/-- The Strip Tracker (Chapter 4). -/
structure StripTracker where
  lanes : Two Lane := Two.both {}
  /-- the purged list, in order of purge (R74) -/
  purged : List Strip := []
  /-- how many of the ten records are in the pool (R74: the pool is unordered) -/
  pool : Nat := 10
  inMap : Vector InSlot 40 := Vector.replicate 40 .unknown
  elevator : Elevator := .idle
  lastGranted : Side := .one
  nextStrip : BitVec 16 := 0
  counters : StripCounters := {}
  deriving DecidableEq, Repr

/-! ## Pull Record Unit (Chapter 5) -/

/-- An entry of a plan's pull set (R97). -/
structure PullPick where
  wire : Nat
  pullClass : Option (Fin 8)
  deriving DecidableEq, Repr

/-- A sampling plan (R97). -/
structure Plan where
  interval : Nat := 0
  units : List Nat := []
  pullSet : List PullPick := []
  tighten : Nat := 1
  deadline : Nat := 0
  deriving DecidableEq, Repr

/-- The sampling state of a lane (R98). -/
structure Sampling where
  tight : Bool := false
  /-- strips-since-sample count c -/
  count : Nat := 0
  /-- consecutive-pass count t -/
  passes : Nat := 0
  deriving DecidableEq, Repr

/-- The class of a pending entry (R101): settled (absent only when its lookup failed), or RESOLVING by the
lookup of the start order given. -/
inductive ClassState where
  | settled (c : Option (Fin 8))
  | resolving (start : Nat)
  deriving DecidableEq, Repr

/-- An entry of the pending pull list (R101). -/
structure PendingPull where
  strip : BitVec 16
  lane : Side
  unit : Nat
  wire : Nat
  ball : Option (BitVec 32)
  stitch : Option (BitVec 32)
  /-- ISSUED (set) or WAITING (clear) -/
  issued : Bool
  age : Nat
  pullClass : ClassState
  deriving DecidableEq, Repr

/-- The pull modes, in the order of Section 10.4. -/
inductive PullMode where
  | ballLift
  | neck
  | span
  | heel
  | stitchLift
  | void
  deriving DecidableEq, Repr

/-- A well-formed pull result (R107). -/
structure PullResult where
  strip : BitVec 16
  unit : Nat
  wire : Nat
  force : Nat
  clamped : Bool
  mode : PullMode
  deriving DecidableEq, Repr

/-- A bond data part of a pull record (R108); the verdict is the code byte of the bond record read. -/
inductive DataPart where
  | absent
  | found (verdict : Byte) (energy deform : Nat)
  | notYet
  | lost
  | fault
  deriving DecidableEq, Repr

/-- The correlation slot (R107, R108). In READING a part that is `none` waits for its lookback. -/
inductive CorrSlot where
  | empty
  | placeWait (e : PendingPull) (r : PullResult)
  | reading (e : PendingPull) (r : PullResult) (ball stitch : Option DataPart)
  deriving DecidableEq, Repr

/-- The outcomes of a pull record, by their codes (Section 10.5). -/
inductive PullOutcome where
  | pass
  | fail
  | void
  | expired
  deriving DecidableEq, Repr

/-- The force part of a pull record, absent in an EXPIRED one (R105, R109). -/
structure PullForce where
  force : Nat
  clamped : Bool
  mode : PullMode
  deriving DecidableEq, Repr

/-- A composed pull record before it has a pull number (R105, R109). -/
structure PullRecord where
  strip : BitVec 16
  lane : Side
  unit : Nat
  wire : Nat
  pullClass : Option (Fin 8)
  issued : Bool
  force : Option PullForce
  outcome : PullOutcome
  ball : DataPart
  stitch : DataPart
  /-- part time in minutes -/
  time : Nat
  deriving DecidableEq, Repr

/-- A pull class (R112); the accepted-mode set is one mark for each of the five modes. -/
structure PullClass where
  minForce : Nat := 0
  ballLift : Bool := true
  neck : Bool := true
  span : Bool := true
  heel : Bool := true
  stitchLift : Bool := true
  failLimit : Nat := 32
  meanLimit : Nat := 0
  deriving DecidableEq, Repr

/-- A force held in a pull window, with its outcome (R113). -/
structure HeldForce where
  force : Nat
  fail : Bool
  deriving DecidableEq, Repr

/-- A pull window (R113), with every item that rule says it holds. -/
structure PullWindow where
  forces : List HeldForce := []
  n : Nat := 0
  sum : Nat := 0
  min : Option Nat := none
  fails : Nat := 0
  tripped : Bool := false
  deriving DecidableEq, Repr

/-- The counters of the Pull Record Unit (R119). -/
structure PullCounters where
  dropped : Count := 0
  malformed : Count := 0
  unsolicited : Count := 0
  expired : Count := 0
  evicted : Count := 0
  selDropped : Count := 0
  purged : Count := 0
  notWritten : Count := 0
  deriving DecidableEq, Repr

/-- The Pull Record Unit (Chapter 5). -/
structure PullUnit where
  plans : Two Plan := Two.both {}
  sampling : Two Sampling := Two.both {}
  pulls : List PendingPull := []
  intake : List PullResult := []
  slot : CorrSlot := .empty
  writeList : List PullRecord := []
  classes : Vector PullClass 8 := Vector.replicate 8 {}
  windows : Two (Vector PullWindow 8) := Two.both (Vector.replicate 8 {})
  counters : PullCounters := {}
  deriving DecidableEq, Repr

/-! ## Alarm and Hold Unit (Chapter 6) -/

/-- The kinds of alarm, in the order of R123. -/
inductive AlarmKind where
  | bondFault
  | unmapped
  | noProgram
  | monitorOverrun
  | pullAlarm
  | pullExpired
  | outputFull
  | inputEmpty
  | stripStarved
  | storeFault
  | ringLost
  | panelAbsent
  deriving DecidableEq, Repr

/-- The sources of an alarm (R123). -/
inductive AlarmSource where
  | head (h : Side)
  | lane (l : Side)
  | input
  | feeder
  | store
  | ring
  | panel (p : Fin 4)
  deriving DecidableEq, Repr

/-- The subject of an alarm (R120). -/
structure Subject where
  strip : Option (BitVec 16)
  unit : Option Nat
  wire : Option Nat
  deriving DecidableEq, Repr

/-- An entry of the alarm list (R120). -/
structure Alarm where
  number : BitVec 16
  kind : AlarmKind
  source : AlarmSource
  subject : Option Subject
  /-- occurrence count, 1 to 255, saturating -/
  count : Nat
  raised : BitVec 32
  lastRaised : BitVec 32
  deriving DecidableEq, Repr

/-- A head hold set, its seven reasons in the order of R129; LANE_OFF alone after power-on reset. -/
structure HeadHolds where
  laneOff : Bool := true
  bondFault : Bool := false
  unmapped : Bool := false
  noProgram : Bool := false
  storeFault : Bool := false
  ringLost : Bool := false
  operator : Bool := false
  deriving DecidableEq, Repr

/-- A feeder hold set (R130); LANE_OFF alone after power-on reset. -/
structure FeederHolds where
  laneOff : Bool := true
  pullAlarm : Bool := false
  deriving DecidableEq, Repr

/-- The counters of the Alarm and Hold Unit (R136). -/
structure AlarmCounters where
  raised : Count := 0
  coalesced : Count := 0
  refused : Count := 0
  deriving DecidableEq, Repr

/-- The Alarm and Hold Unit (Chapter 6). The hold lines follow the head sets (`Machine.holdLine`). -/
structure AlarmUnit where
  alarms : List Alarm := []
  nextNumber : BitVec 16 := 0
  heads : Two HeadHolds := Two.both {}
  feeders : Two FeederHolds := Two.both {}
  counters : AlarmCounters := {}
  deriving DecidableEq, Repr

/-! ## Panel Controller (Chapter 7) -/

/-- The parity setting of the panel line (R137). -/
inductive Parity where
  | none
  | even
  | odd
  deriving DecidableEq, Repr

/-- The line settings (R137, R141): divisor n, parity, two stop bits or one, reply timeout in character
times. -/
structure LineSettings where
  divisor : Nat := 11
  parity : Parity := .none
  twoStops : Bool := false
  timeout : Nat := 8
  deriving DecidableEq, Repr

/-- The live items, in the order of R148. -/
inductive LiveItem where
  | stripAtBond
  | unitsDone
  | unitsTotal
  | holdState
  | bondsIssued
  | bondsFailed
  | lastVerdict
  | lastEnergy
  | lastDeform
  | pullMean
  | pullFails
  | pendingPulls
  | alarmCount
  | inputLoaded
  | outputFree
  | ringState
  deriving DecidableEq, Repr

/-- The formats of a field (R149). -/
inductive FieldFormat where
  | dec
  | dec1
  | text
  deriving DecidableEq, Repr

/-- The selector of a field slot (R147). -/
inductive Selector where
  | own
  | side (h : Side)
  deriving DecidableEq, Repr

/-- A field slot of a template line (R147). -/
structure FieldSlot where
  column : Nat
  width : Nat
  item : LiveItem
  selector : Selector
  pullClass : Fin 8
  format : FieldFormat
  deriving DecidableEq, Repr

/-- A template line (R147): 24 characters and its slots; 24 spaces and no slots after power-on reset. -/
structure Template where
  text : List Byte := List.replicate 24 0x20
  slots : List FieldSlot := []
  deriving DecidableEq, Repr

/-- The eight lines of a screen, as the set of all line numbers. -/
def allLines : List (Fin 8) := [0, 1, 2, 3, 4, 5, 6, 7]

/-- An entry of the panel table (R142). -/
structure Panel where
  enabled : Bool := false
  address : Nat
  head : Option Side := none
  present : Bool := true
  misses : Nat := 0
  page : Fin 4 := 0
  /-- the dirty lines, a set kept in rising order -/
  dirty : List (Fin 8) := allLines
  selection : Option (BitVec 16) := none
  beep : Bool := false
  errorsCount : Count := 0
  missesCount : Count := 0
  deriving DecidableEq, Repr

/-- A character of the panel line: its data byte and its address flag (R137). -/
structure LineChar where
  data : Byte
  addr : Bool
  deriving DecidableEq, Repr

/-- A received character with its two error marks (R139). -/
structure RxMarked where
  char : LineChar
  framing : Bool
  parity : Bool
  deriving DecidableEq, Repr

/-- The messages of the part (Section 7.2). -/
inductive Message where
  | line
  | beep
  | poll
  deriving DecidableEq, Repr

/-- A turn while SENDING (R145): the panel, how many LINE messages it has sent or is sending, the message
whose transmission is in progress, and whether a PANEL_CONFIG has cut it (R142). -/
structure Turn where
  panel : Fin 4
  lines : Nat
  message : Message
  cut : Bool
  deriving DecidableEq, Repr

/-- An open reply window (R141): the panel, the characters collected, the length in character times and the
settings that give the character time it opened with (R143), and whether a work restart has come (R156). -/
structure ReplyWindow where
  panel : Fin 4
  chars : List RxMarked
  length : Nat
  settings : LineSettings
  dropKeys : Bool
  deriving DecidableEq, Repr

/-- The states of the panel controller (R144). -/
inductive WalkState where
  | stopped
  | sending (t : Turn)
  | listening (w : ReplyWindow)
  | resting
  deriving DecidableEq, Repr

/-- The Panel Controller (Chapter 7). -/
structure PanelController where
  settings : LineSettings := {}
  /-- the settings held before each PANEL_CONFIG of the line form since the last character was received, newest
  first: a character being received may have begun under any of them (R143) -/
  prior : List LineSettings := []
  panels : Vector Panel 4 := #v[⟨false, 1, none, true, 0, 0, allLines, none, false, 0, 0⟩,
    ⟨false, 2, none, true, 0, 0, allLines, none, false, 0, 0⟩,
    ⟨false, 3, none, true, 0, 0, allLines, none, false, 0, 0⟩,
    ⟨false, 4, none, true, 0, 0, allLines, none, false, 0, 0⟩]
  poll : Vector (Option (Fin 4)) 16 := Vector.replicate 16 none
  templates : Vector (Vector Template 8) 4 := Vector.replicate 4 (Vector.replicate 8 {})
  position : Fin 16 := 0
  pass : BitVec 16 := 0
  /-- the pass under way has made a turn (R144) -/
  madeTurn : Bool := false
  /-- a POLL_WRITE taken during a turn sends the walk to entry 0 when the turn ends (R144) -/
  rewind : Bool := false
  walk : WalkState := .stopped
  /-- the shift register and the transmit buffer (R138) as the message in progress began, and the
  characters behind them -/
  shift : Option LineChar := none
  /-- the settings under which the character in the shift register began (R143) -/
  shiftSettings : LineSettings := {}
  buffer : Option LineChar := none
  rest : List LineChar := []
  strays : Count := 0
  keysRefused : Count := 0
  deriving DecidableEq, Repr

/-! ## Ring Port (Chapter 8) -/

/-- The roles of the station table (R162); `vacant` is NONE. -/
inductive Role where
  | vacant
  | headBoard (h : Side)
  | indexer
  | pullTester
  | other
  deriving DecidableEq, Repr

/-- A parcel (Section 10.3). Its payload length field is the length of its payload. -/
structure Parcel where
  kind : Byte
  source : Byte
  dest : Byte
  tag : Byte
  payload : List Byte
  deriving DecidableEq, Repr

/-- The counters of the Ring Port (R173). -/
structure RingCounters where
  good : Count := 0
  damaged : Count := 0
  malformedFrames : Count := 0
  malformedParcels : Count := 0
  ownRemoved : Count := 0
  consumed : Count := 0
  notConsumed : Count := 0
  ignored : Count := 0
  snooped : Count := 0
  noticesDropped : Count := 0
  inserted : Count := 0
  losses : Count := 0
  deriving DecidableEq, Repr

/-- The Ring Port (Chapter 8). -/
structure RingPort where
  /-- the part's own station number (R161); log entry 4 for the value in `State.reset` -/
  station : BitVec 5 := 7
  /-- the entries of stations 1 to 30, in order (R162) -/
  table : Vector Role 30 := Vector.replicate 30 .vacant
  outbound : List Parcel := []
  reservations : Nat := 0
  /-- ring UP (set) or LOST (clear) -/
  up : Bool := false
  /-- watchdog RUNNING (set) or STOPPED (clear) -/
  watchdog : Bool := true
  /-- ring timeout in ms -/
  timeout : Nat := 20
  /-- the period with which the watchdog was last restarted (R171) -/
  period : Nat := 20
  lastCycle : BitVec 16 := 0
  noticeTag : Byte := 0
  counters : RingCounters := {}
  /-- the model's own: the last frame forwarded on RING_OUT -/
  forwarded : Option Frame := none
  deriving DecidableEq, Repr

/-! ## Command Unit (Chapter 9) -/

/-- The command in progress (R174): the tag of its reply and its code. -/
structure InProgress where
  station : Byte
  tag : Byte
  code : Byte
  deriving DecidableEq, Repr

/-- The verdict item of the notice selection (R176). -/
inductive VerdictSelect where
  | none
  | fails
  | all
  deriving DecidableEq, Repr

/-- The notice selection (R176), at its power-on values by default. -/
structure NoticeSelect where
  verdicts : VerdictSelect := .fails
  strips : Bool := true
  pulls : Bool := true
  alarms : Bool := true
  wraps : Bool := false
  deriving DecidableEq, Repr

/-- The Command Unit (Chapter 9). -/
structure CommandUnit where
  inProgress : Option InProgress := none
  select : NoticeSelect := {}
  done : Count := 0
  refused : Count := 0
  deriving DecidableEq, Repr

/-! ## The machine -/

/-- The part itself: everything that the RESET input resets. -/
structure Part where
  /-- part time in ms (R1) -/
  time : BitVec 32 := 0
  rp : RingPort := {}
  cu : CommandUnit := {}
  bm : BondMonitor := {}
  map : MapCache := {}
  store : RecordStore := {}
  st : StripTracker := {}
  pru : PullUnit := {}
  ahu : AlarmUnit := {}
  pnc : PanelController := {}
  deriving DecidableEq, Repr

/-- The bytes of the SRAM that the part has written: addresses strictly rising (log entry 1). -/
abbrev Sram := List Host.Cell

/-- The machine: the part, the SRAM on its record store port, and the queue of waiting commands, first in
first out. -/
structure State where
  part : Part
  sram : Sram
  pending : List Instr
  deriving DecidableEq, Repr

/-- Reasons to stop with a fault. There are none: the spec gives every event of the block an effect, and
no event stops the part. -/
inductive Fault where
  deriving DecidableEq, Repr

/-- Reasons to refuse a command. -/
inductive Refusal where
  /-- The command of that mnemonic has no meaning yet: raised by an arm of `exec` only, and safe. No arm
  raises it. -/
  | notModelled (mnemonic : String)
  deriving DecidableEq, Repr

/-- The machine right after power-on reset, with nothing written to the SRAM and no command waiting. Every
field is at the power-on value that the chapter of its block gives; the station number, which the straps
give (R161), is 7 (log entry 4). -/
def State.reset : State := { part := {}, sram := [], pending := [] }

end Sys2Proof.Machine
end

