-- ==== Sys2Proof/Machine/Ops.lean ====
section
/-! DEFINITION. The named operations over registers and memory: saturating counters, byte order, tables,
the SRAM, and the update of one block of the part. -/

namespace Sys2Proof.Machine

/-! ## Counters and numbers -/

/-- Increment of a counter: 16 bits, saturating at 65,535 (Section 0.5.4). -/
def inc (c : Count) : Count := if c = 0xFFFF#16 then c else c + 1

/-- Increment of a number that saturates at `top`. -/
def incTo (top n : Nat) : Nat := if n < top then n + 1 else n

/-- `n` with a value above `top` taken as `top` (R15, R17, R107). -/
def clampTo (top n : Nat) : Nat := if n ≤ top then n else top

/-- The number of a table entry below `n`, when `x` is one. -/
def index? (n x : Nat) : Option (Fin n) := if h : x < n then some ⟨x, h⟩ else none

/-- The head or lane of number `x`, when `x` is 0 or 1. -/
def side? (x : Nat) : Option Side := if x = 0 then some .zero else if x = 1 then some .one else none

/-- A mark, setting or request byte: 0 or 1 (R185). -/
def mark? (x : Nat) : Option Bool := if x = 0 then some false else if x = 1 then some true else none

/-! ## Byte order (R183) -/

/-- `n` in `k` bytes, least significant byte first (R183). -/
def le : Nat → Nat → List Byte
  | 0, _ => []
  | k + 1, n => BitVec.ofNat 8 n :: le k (n / 256)

/-- The number that bytes hold, least significant byte first (R183). -/
def fromLE : List Byte → Nat
  | [] => 0
  | b :: bs => b.toNat + 256 * fromLE bs

/-- The byte at offset `i`, as a number. -/
def byteAt (bs : List Byte) (i : Nat) : Nat := (bs.getD i 0).toNat

/-- The number in the two bytes at offset `i`. -/
def word16At (bs : List Byte) (i : Nat) : Nat := fromLE ((bs.drop i).take 2)

/-- The number in the four bytes at offset `i`. -/
def word32At (bs : List Byte) (i : Nat) : Nat := fromLE ((bs.drop i).take 4)

/-- The weight of bit `i` of a flag set, when the member is in it (R183). -/
def flagBit (b : Bool) (i : Nat) : Nat := if b then 2 ^ i else 0

/-- A mark in a byte of its own: 0 for clear, 1 for set (R185). In a reply or notice, that a field of yes or no that
no rule codes is written so is the model's (log entry 12). -/
def boolByte (b : Bool) : Byte := if b then 1 else 0

/-- A number in one byte (R186). -/
def oneByte (n : Nat) : Byte := BitVec.ofNat 8 n

/-- The characters of a text of the panels, as bytes. -/
def chars (cs : List Char) : List Byte := cs.map fun c => oneByte c.toNat

/-! ## Tables -/

/-- Apply `f` to every entry of a table. -/
def vmap {α : Type} {n : Nat} (f : α → α) (v : Vector α n) : Vector α n :=
  ⟨(v.toList.map f).toArray, by simp⟩

/-- The table whose entry of number `i` is `f i`. -/
def vtab {α : Type} (n : Nat) (f : Nat → α) : Vector α n :=
  ⟨((List.range n).map f).toArray, by simp⟩

/-- Replace entry `i` of a table. -/
def vset {α : Type} {n : Nat} (v : Vector α n) (i : Fin n) (x : α) : Vector α n := v.set i.val x i.isLt

/-- Change entry `i` of a table. -/
def vmod {α : Type} {n : Nat} (v : Vector α n) (i : Fin n) (f : α → α) : Vector α n :=
  vset v i (f (v.get i))

/-- The lowest number whose entry satisfies `q` (R6, R75, R76). -/
def vfind {α : Type} {n : Nat} (q : α → Bool) (v : Vector α n) : Option (Fin n) :=
  (v.toList.findIdx? q).bind (index? n)

/-- How many entries satisfy `q`. -/
def vcount {α : Type} {n : Nat} (q : α → Bool) (v : Vector α n) : Nat := v.toList.countP q

/-! ## The SRAM of the record store (R49)

The bytes written by the part, by address, addresses strictly rising. An address that is not listed reads
as no value, so that no entry can equal it, and a read access then delivers the free value of that
address (log entry 1). -/

/-- The byte that the part has written at address `a`, if it has. -/
def sramRead : Sram → Nat → Option Byte
  | [], _ => none
  | (x, b) :: m, a => if x = a then some b else sramRead m a

/-- What a read access finds at address `a` (R49). -/
def sramByte (m : Sram) (a : Nat) : Byte := (sramRead m a).getD (Config.sramPowerUp a)

/-- Write one byte, keeping the addresses strictly rising. -/
def sramWrite : Sram → Nat → Byte → Sram
  | [], a, b => [(a, b)]
  | (x, c) :: m, a, b =>
    if a < x then (a, b) :: (x, c) :: m
    else if a = x then (a, b) :: m
    else (x, c) :: sramWrite m a b

/-- Write bytes to consecutive addresses, `a` first. -/
def sramWriteAll : Sram → Nat → List Byte → Sram
  | m, _, [] => m
  | m, a, b :: bs => sramWriteAll (sramWrite m a b) (a + 1) bs

/-- The canonical form: addresses strictly rising. -/
def sramWf : Sram → Bool
  | [] => true
  | [_] => true
  | (x, _) :: (y, c) :: m => decide (x < y) && sramWf ((y, c) :: m)

/-- The address that the 20 address outputs SA19 to SA0 carry (Section 0.4). -/
def portAddress (a : Nat) : Nat := a % 2 ^ 20

/-! ## Update of one block of the part -/

/-- Replace the part time's state. -/
def setTime (p : Part) (x : BitVec 32) : Part := { p with time := x }

/-- Replace the Ring Port's state. -/
def setRp (p : Part) (x : RingPort) : Part := { p with rp := x }

/-- Replace the Command Unit's state. -/
def setCu (p : Part) (x : CommandUnit) : Part := { p with cu := x }

/-- Replace the Bond Monitor's state. -/
def setBm (p : Part) (x : BondMonitor) : Part := { p with bm := x }

/-- Replace the map cache's state. -/
def setMap (p : Part) (x : MapCache) : Part := { p with map := x }

/-- Replace the Record Store Controller's state. -/
def setStore (p : Part) (x : RecordStore) : Part := { p with store := x }

/-- Replace the Strip Tracker's state. -/
def setSt (p : Part) (x : StripTracker) : Part := { p with st := x }

/-- Replace the Pull Record Unit's state. -/
def setPru (p : Part) (x : PullUnit) : Part := { p with pru := x }

/-- Replace the Alarm and Hold Unit's state. -/
def setAhu (p : Part) (x : AlarmUnit) : Part := { p with ahu := x }

/-- Replace the Panel Controller's state. -/
def setPnc (p : Part) (x : PanelController) : Part := { p with pnc := x }

/-- Change the channel of head `h`. -/
def modChannel (p : Part) (h : Side) (f : Channel → Channel) : Part :=
  setBm p { p.bm with channels := p.bm.channels.set h (f (p.bm.channels.get h)) }

/-- Change a channel's counters. -/
def countChannel (p : Part) (h : Side) (f : ChannelCounters → ChannelCounters) : Part :=
  modChannel p h fun c => { c with counters := f c.counters }

/-- Change context `i` of the channel of head `h`, if it is in use. -/
def modContext (p : Part) (h : Side) (i : Fin 4) (f : Context → Context) : Part :=
  modChannel p h fun c => { c with contexts := vmod c.contexts i (Option.map f) }

/-- Context `i` of the channel of head `h`; none is FREE. -/
def contextOf (p : Part) (h : Side) (i : Fin 4) : Option Context :=
  (p.bm.channels.get h).contexts.get i

/-- Change the counters of the map cache. -/
def countMap (p : Part) (f : MapCounters → MapCounters) : Part :=
  setMap p { p.map with counters := f p.map.counters }

/-- Change the counters of the Record Store Controller. -/
def countStore (p : Part) (f : StoreCounters → StoreCounters) : Part :=
  setStore p { p.store with counters := f p.store.counters }

/-- Change the counters of the Strip Tracker. -/
def countStrips (p : Part) (f : StripCounters → StripCounters) : Part :=
  setSt p { p.st with counters := f p.st.counters }

/-- Change the counters of the Pull Record Unit. -/
def countPulls (p : Part) (f : PullCounters → PullCounters) : Part :=
  setPru p { p.pru with counters := f p.pru.counters }

/-- Change the counters of the Alarm and Hold Unit. -/
def countAlarms (p : Part) (f : AlarmCounters → AlarmCounters) : Part :=
  setAhu p { p.ahu with counters := f p.ahu.counters }

/-- Change the counters of the Ring Port. -/
def countRing (p : Part) (f : RingCounters → RingCounters) : Part :=
  setRp p { p.rp with counters := f p.rp.counters }

/-- Change a panel of the panel table. -/
def modPanel (p : Part) (i : Fin 4) (f : Panel → Panel) : Part :=
  setPnc p { p.pnc with panels := vmod p.pnc.panels i f }

/-- Change every panel of the panel table. -/
def modPanels (p : Part) (f : Panel → Panel) : Part :=
  setPnc p { p.pnc with panels := vmap f p.pnc.panels }

end Sys2Proof.Machine
end

