-- ==== Sys2Proof/Machine/Operands.lean ====
section
/-! DEFINITION. The operand forms: frames with their check, parcels with their kinds and lengths, the
fields of telemetry, and the table of command codes (Chapter 10). -/

namespace Sys2Proof.Machine

/-! ## The frame check (R184) -/

/-- `k` shifts of the CRC register with the reflected polynomial. -/
def crcShift : Nat → BitVec 32 → BitVec 32
  | 0, c => c
  | k + 1, c => crcShift k (if c.getLsbD 0 then (c >>> 1) ^^^ 0xEDB88320#32 else c >>> 1)

/-- The register after one byte, taken least significant bit first. -/
def crcByte (c : BitVec 32) (b : Byte) : BitVec 32 := crcShift 8 (c ^^^ b.setWidth 32)

/-- The CRC-32 of R184: the register starts at all ones and the result is inverted. -/
def crc32 (bs : List Byte) : BitVec 32 := ~~~ (bs.foldl crcByte 0xFFFFFFFF#32)

/-- The seven header bytes of a frame (Section 10.2). -/
def frameHeader (f : Frame) : List Byte :=
  le 2 f.cycle.toNat ++ le 2 f.capacity.toNat ++ le 2 f.used.toNat ++ [f.flags]

/-- A frame as it goes on the ring, byte for byte (Section 10.2). -/
def frameBytes (f : Frame) : List Byte := frameHeader f ++ f.area ++ le 4 f.check.toNat

/-- The check over a frame's header and parcel area, free room included (R184). -/
def frameCheck (f : Frame) : BitVec 32 := crc32 (frameHeader f ++ f.area)

/-- The frame with its check computed anew (R184). -/
def sealFrame (f : Frame) : Frame := { f with check := frameCheck f }

/-- The frame passes its check (R184). A parcel area that is not as long as the capacity cannot: the
check does not then stand where the header puts it (log entry 3). -/
def checkPasses (f : Frame) : Bool := f.area.length == f.capacity.toNat && f.check == frameCheck f

/-- The damaged mark, bit 0 of the flags (Section 10.2). -/
def damagedMark (f : Frame) : Bool := f.flags.getLsbD 0

/-- The frame with its damaged mark set (R159). -/
def markDamaged (f : Frame) : Frame := { f with flags := f.flags ||| 1#8 }

/-- The classes of R158. -/
inductive FrameClass where
  | damaged
  | malformed
  | good
  deriving DecidableEq, Repr

/-- The class of a frame that arrives (R158). -/
def frameClass (f : Frame) : FrameClass :=
  if !checkPasses f || damagedMark f then .damaged
  else if f.capacity.toNat < 64 || 1024 < f.capacity.toNat || f.capacity.toNat < f.used.toNat then
    .malformed
  else .good

/-! ## Parcels (Section 10.3) -/

/-- The length of the parcel header. -/
def parcelHeaderLength : Nat := 5

/-- The longest payload of a parcel (Section 8.2). -/
def maxPayload : Nat := 240

/-- A parcel as it lies in a parcel area. -/
def parcelBytes (q : Parcel) : List Byte :=
  [q.kind, q.source, q.dest, q.tag, oneByte q.payload.length] ++ q.payload

/-- A parcel's length in the frame. -/
def parcelLength (q : Parcel) : Nat := parcelHeaderLength + q.payload.length

/-- The filler that stands in place of a parcel with a payload of `n` bytes (R184). -/
def fillerBytes (own : Byte) (n : Nat) : List Byte :=
  parcelBytes ⟨0x00, own, 0, 0, List.replicate n 0⟩

/-- The parcel kinds of Section 10.3. -/
inductive Kind where
  | empty
  | command
  | unitAsk
  | feedAsk
  | moveAsk
  | ejectAsk
  | workAsk
  | bondOpen
  | samples
  | bondClose
  | unitEnd
  | magEvent
  | stripEvent
  | pullResult
  | untested
  deriving DecidableEq, Repr

/-- The kind codes of Section 10.3. `untested` stands for the kinds that the part sends, which are not
tested for length, and for every code that it does not know. -/
def kindTable : List (Byte × Kind) :=
  [(0x00, .empty), (0x10, .command), (0x20, .unitAsk), (0x21, .feedAsk), (0x22, .moveAsk),
   (0x23, .ejectAsk), (0x24, .workAsk), (0x40, .bondOpen), (0x41, .samples), (0x42, .bondClose),
   (0x43, .unitEnd), (0x44, .magEvent), (0x45, .stripEvent), (0x46, .pullResult)]

/-- The kind of a code. -/
def kindOf (b : Byte) : Kind := (kindTable.lookup b).getD .untested

/-- The request kinds (Section 8.4). -/
def isRequest : Kind → Bool
  | .command | .unitAsk | .feedAsk | .moveAsk | .ejectAsk | .workAsk => true
  | .empty | .bondOpen | .samples | .bondClose | .unitEnd | .magEvent | .stripEvent | .pullResult
  | .untested => false

/-- The telemetry kinds (Section 8.4). -/
def isTelemetry : Kind → Bool
  | .bondOpen | .samples | .bondClose | .unitEnd | .magEvent | .stripEvent | .pullResult => true
  | .empty | .command | .unitAsk | .feedAsk | .moveAsk | .ejectAsk | .workAsk | .untested => false

/-! ## Command codes (R185) -/

/-- The commands, a form of its own for each row of the table of R185. -/
inductive Command where
  | stationSet
  | stationSetRing
  | stationGet
  | programWrite
  | programRead
  | mapConfig
  | mapWrite
  | mapRead
  | mapFlush
  | storeConfig
  | storeEnable
  | storeDisable
  | storeStatus
  | recordRead
  | laneConfig
  | laneEnable
  | laneDisable
  | lanePurge
  | headChannel
  | hold
  | resume
  | planWrite
  | classWrite
  | windowRead
  | alarmAck
  | alarmList
  | panelConfig
  | panelConfigLine
  | pollWrite
  | screenWrite
  | noticeSelect
  | countersRead
  | statusRead
  | restart
  deriving DecidableEq, Repr

/-- A row of the table of R185. -/
structure CommandRow where
  code : Nat
  form : Nat
  command : Command
  /-- the argument length; for SCREEN_WRITE that of no slots -/
  length : Nat
  deriving DecidableEq, Repr

/-- The table of R185. -/
def commandTable : List CommandRow :=
  [⟨0x01, 0, .stationSet, 3⟩, ⟨0x01, 1, .stationSetRing, 1⟩, ⟨0x02, 0, .stationGet, 0⟩,
   ⟨0x10, 0, .programWrite, 26⟩, ⟨0x11, 0, .programRead, 1⟩, ⟨0x12, 0, .mapConfig, 4⟩,
   ⟨0x13, 0, .mapWrite, 7⟩, ⟨0x14, 0, .mapRead, 3⟩, ⟨0x15, 0, .mapFlush, 0⟩,
   ⟨0x20, 0, .storeConfig, 28⟩, ⟨0x21, 0, .storeEnable, 0⟩, ⟨0x22, 0, .storeDisable, 0⟩,
   ⟨0x23, 0, .storeStatus, 1⟩, ⟨0x24, 0, .recordRead, 5⟩, ⟨0x30, 0, .laneConfig, 7⟩,
   ⟨0x31, 0, .laneEnable, 1⟩, ⟨0x32, 0, .laneDisable, 1⟩, ⟨0x33, 0, .lanePurge, 1⟩,
   ⟨0x34, 0, .headChannel, 2⟩, ⟨0x35, 0, .hold, 1⟩, ⟨0x36, 0, .resume, 1⟩,
   ⟨0x40, 0, .planWrite, 33⟩, ⟨0x41, 0, .classWrite, 7⟩, ⟨0x42, 0, .windowRead, 2⟩,
   ⟨0x50, 0, .alarmAck, 2⟩, ⟨0x51, 0, .alarmList, 1⟩, ⟨0x60, 0, .panelConfig, 4⟩,
   ⟨0x60, 1, .panelConfigLine, 4⟩, ⟨0x61, 0, .pollWrite, 16⟩, ⟨0x62, 0, .screenWrite, 27⟩,
   ⟨0x70, 0, .noticeSelect, 5⟩, ⟨0x71, 0, .countersRead, 2⟩, ⟨0x72, 0, .statusRead, 0⟩,
   ⟨0x7F, 0, .restart, 0⟩]

/-- The row of a code and form. -/
def commandRow (code form : Nat) : Option CommandRow :=
  commandTable.find? fun r => r.code == code && r.form == form

/-- The argument length that a row gives these arguments: SCREEN_WRITE has 6 bytes for each slot. -/
def argumentLength (r : CommandRow) (args : List Byte) : Nat :=
  match r.command with
  | .screenWrite => r.length + 6 * byteAt args 26
  | _ => r.length

/-- The payload length of a COMMAND fits its code and form (R181, Section 10.3); an unknown code or form
is not tested beyond 2. -/
def commandLengthFits (pl : List Byte) : Bool :=
  if pl.length < 2 then false
  else match commandRow (byteAt pl 0) (byteAt pl 1) with
    | none => true
    | some r => pl.length == 2 + argumentLength r (pl.drop 2)

/-- The payload of a STRIP_EVENT fits (Section 10.3). -/
def stripEventFits (pl : List Byte) : Bool :=
  if pl.length == 0 then false
  else if byteAt pl 0 == 0 then
    let m := byteAt pl 2
    let k := byteAt pl (3 + m)
    3 ≤ pl.length && m ≤ 16 && 4 + m ≤ pl.length && k ≤ 64 && pl.length == 4 + m + k
  else byteAt pl 0 == 1 && pl.length == 3

/-- The payload of a MAG_EVENT fits (Section 10.3). -/
def magEventFits (pl : List Byte) : Bool :=
  3 ≤ pl.length && byteAt pl 0 ≤ 2 && byteAt pl 1 ≤ 1 && byteAt pl 2 ≤ 40
    && pl.length == 3 + byteAt pl 2

/-- The payload length matches its kind (R160, Section 10.3). -/
def lengthFits (k : Kind) (pl : List Byte) : Bool :=
  match k with
  | .empty => true
  | .command => commandLengthFits pl
  | .unitAsk | .feedAsk | .moveAsk | .ejectAsk => pl.length == 1
  | .workAsk => pl.length == 2
  | .bondOpen => pl.length == 6
  | .samples => 6 ≤ pl.length && pl.length == 6 + 8 * byteAt pl 5
  | .bondClose => pl.length == 5
  | .unitEnd => pl.length == 6
  | .magEvent => magEventFits pl
  | .stripEvent => stripEventFits pl
  | .pullResult => pl.length == 8
  | .untested => true

/-! ## Fields of telemetry (Section 10.4, R183) -/

/-- One sample of a SAMPLES parcel. -/
structure Sample where
  v : Nat
  i : Nat
  z : Nat
  f : Nat
  deriving DecidableEq, Repr

/-- The sample in eight bytes: v and i are read in 10 bits and f in 11 (R183). -/
def sampleAt (bs : List Byte) (off : Nat) : Sample :=
  { v := word16At bs off % 1024
    i := word16At bs (off + 2) % 1024
    z := word16At bs (off + 4)
    f := word16At bs (off + 6) % 2048 }

/-- The samples of a SAMPLES payload, in order. -/
def samplesOf (pl : List Byte) (count : Nat) : List Sample :=
  (List.range count).map fun k => sampleAt pl (6 + 8 * k)

/-- The pull mode of a mode byte; none is an unknown mode (Section 10.4). -/
def modeOf (x : Nat) : Option PullMode :=
  [PullMode.ballLift, .neck, .span, .heel, .stitchLift, .void][x]?

end Sys2Proof.Machine
end

