-- ==== Sys2Proof/Machine/Flags.lean ====
section
/-! DEFINITION. The flag computations: hold sets, hold lines and their reasons, the error sum, and the flag
sets that are carried one bit per member (R183). -/

namespace Sys2Proof.Machine

/-- The number whose bit i is member i of a flag set (R183). -/
def bitsOf : List Bool → Nat
  | [] => 0
  | b :: bs => (if b then 1 else 0) + 2 * bitsOf bs

/-- The presence bytes of optional fields, one bit each in the order listed (R186). -/
def presence (bs : List Bool) : List Byte := le ((bs.length + 7) / 8) (bitsOf bs)

/-! ## Hold sets (R129 to R131) -/

/-- The reasons of a head hold set as flags, in the order of R129. -/
def headReasons (x : HeadHolds) : List Bool :=
  [x.laneOff, x.bondFault, x.unmapped, x.noProgram, x.storeFault, x.ringLost, x.operator]

/-- The reasons of a feeder hold set as flags, in the order of R130. -/
def feederReasons (x : FeederHolds) : List Bool := [x.laneOff, x.pullAlarm]

/-- A head hold set is not empty. -/
def headSetHeld (x : HeadHolds) : Bool :=
  x.laneOff || x.bondFault || x.unmapped || x.noProgram || x.storeFault || x.ringLost || x.operator

/-- A feeder hold set is not empty. -/
def feederSetHeld (x : FeederHolds) : Bool := x.laneOff || x.pullAlarm

/-- Head `h` is held. -/
def headHeld (p : Part) (h : Side) : Bool := headSetHeld (p.ahu.heads.get h)

/-- The feeder of lane `l` is held. -/
def feederHeld (p : Part) (l : Side) : Bool := feederSetHeld (p.ahu.feeders.get l)

/-- The level of hold line HOLD0 or HOLD1: asserted exactly while the head's set is not empty (R131). While RESET is
asserted it is the level that `resetAsserted` gives. -/
def holdLine (p : Part) (h : Side) : Bool := headHeld p h

/-- The error sum (R135). -/
def errorSum (p : Part) : Bool := !p.ahu.alarms.isEmpty

/-- The hold reason that a raise of kind `k` with source `src` adds to the set of head `h` (R123). -/
def addHeadReason (k : AlarmKind) (src : AlarmSource) (h : Side) (x : HeadHolds) : HeadHolds :=
  match k with
  | .bondFault => if src = .head h then { x with bondFault := true } else x
  | .unmapped => if src = .head h then { x with unmapped := true } else x
  | .noProgram => if src = .head h then { x with noProgram := true } else x
  | .storeFault => { x with storeFault := true }
  | .monitorOverrun | .pullAlarm | .pullExpired | .outputFull | .inputEmpty | .stripStarved
  | .ringLost | .panelAbsent => x

/-- The hold reason that acknowledging an entry of kind `k` and source `src` removes from the set of head
`h` (R124). -/
def dropHeadReason (k : AlarmKind) (src : AlarmSource) (h : Side) (x : HeadHolds) : HeadHolds :=
  match k with
  | .bondFault => if src = .head h then { x with bondFault := false } else x
  | .unmapped => if src = .head h then { x with unmapped := false } else x
  | .noProgram => if src = .head h then { x with noProgram := false } else x
  | .storeFault => { x with storeFault := false }
  | .monitorOverrun | .pullAlarm | .pullExpired | .outputFull | .inputEmpty | .stripStarved
  | .ringLost | .panelAbsent => x

/-- The hold reason that a raise adds to the feeder set of lane `l` (R123, R130). -/
def addFeederReason (k : AlarmKind) (src : AlarmSource) (l : Side) (x : FeederHolds) : FeederHolds :=
  match k with
  | .pullAlarm => if src = .lane l then { x with pullAlarm := true } else x
  | .bondFault | .unmapped | .noProgram | .storeFault | .monitorOverrun | .pullExpired | .outputFull
  | .inputEmpty | .stripStarved | .ringLost | .panelAbsent => x

/-- The hold reason that an acknowledgement removes from the feeder set of lane `l` (R124). -/
def dropFeederReason (k : AlarmKind) (src : AlarmSource) (l : Side) (x : FeederHolds) : FeederHolds :=
  match k with
  | .pullAlarm => if src = .lane l then { x with pullAlarm := false } else x
  | .bondFault | .unmapped | .noProgram | .storeFault | .monitorOverrun | .pullExpired | .outputFull
  | .inputEmpty | .stripStarved | .ringLost | .panelAbsent => x

/-- Change the feeder hold set of lane `l` (Holds.lean says what a set that empties sets off). -/
def modFeeder (p : Part) (l : Side) (f : FeederHolds → FeederHolds) : Part :=
  setAhu p { p.ahu with feeders := p.ahu.feeders.set l (f (p.ahu.feeders.get l)) }

/-! ## Flag sets of a bond (Section 10.5) -/

/-- The verdict code of the bond record: 1 for UNMAPPED to 11 for PASS. -/
def verdictCode : Verdict → Nat
  | .unmapped => 1
  | .noProgram => 2
  | .incomplete => 3
  | .short => 4
  | .noContact => 5
  | .nonStick => 6
  | .lowEnergy => 7
  | .highEnergy => 8
  | .lowDeform => 9
  | .highDeform => 10
  | .pass => 11

/-- The ten checks of R18, in table order. -/
def allChecks : List Verdict :=
  [.unmapped, .noProgram, .incomplete, .short, .noContact, .nonStick, .lowEnergy, .highEnergy,
   .lowDeform, .highDeform]

/-- The fault set as bits 0 to 9, for UNMAPPED to HIGH_DEFORM. -/
def faultBits (fs : List Verdict) : Nat := bitsOf (allChecks.map fun v => decide (v ∈ fs))

/-- The marks as bits 0 to 7. -/
def marksBits (m : Marks) : Nat :=
  bitsOf [m.gapped, m.truncated, m.lateClose, m.rebound, m.clamped, m.noDrive, m.noUnit, m.store]

/-- The accepted-mode set as bits 0 to 4 (R185). -/
def modeBits (c : PullClass) : Nat := bitsOf [c.ballLift, c.neck, c.span, c.heel, c.stitchLift]

/-- A mode is in the class's accepted-mode set (R109, R112). -/
def accepts (c : PullClass) : PullMode → Bool
  | .ballLift => c.ballLift
  | .neck => c.neck
  | .span => c.span
  | .heel => c.heel
  | .stitchLift => c.stitchLift
  | .void => false

/-! ## Error marks of a received character (R137, R139) -/

/-- The number of ones among the data bits and the address flag. -/
def onesOf (c : RxChar) : Nat :=
  ((List.range 8).countP fun i => c.data.getLsbD i) + (if c.addr then 1 else 0)

/-- The parity bit disagrees with the configured parity (R139). -/
def parityError (s : LineSettings) (c : RxChar) : Bool :=
  let odd := (onesOf c + (if c.parity then 1 else 0)) % 2 == 1
  match s.parity with
  | .none => false
  | .even => odd
  | .odd => !odd

/-- A stop bit is not at the idle level (R139). -/
def framingError (s : LineSettings) (c : RxChar) : Bool :=
  !c.stop1 || (s.twoStops && !c.stop2)

/-- The bits of a character on the line, in order (R137): start, data lowest first, address flag, parity
when there is one, stop bits. The idle level is `true`. -/
def lineBits (s : LineSettings) (c : LineChar) : List Bool :=
  let ones := ((List.range 8).countP fun i => c.data.getLsbD i) + (if c.addr then 1 else 0)
  let par : List Bool :=
    match s.parity with
    | .none => []
    | .even => [ones % 2 == 1]
    | .odd => [ones % 2 == 0]
  [false] ++ (List.range 8).map (fun i => c.data.getLsbD i) ++ [c.addr] ++ par
    ++ (if s.twoStops then [true, true] else [true])

end Sys2Proof.Machine
end

