-- ==== Sys2Proof/Machine/Encode.lean ====
section
/-! DEFINITION. The layouts of Chapter 10 that the part writes: records of the store, codes of named sets,
and the fields of replies and notices (R183 to R186). -/

namespace Sys2Proof.Machine

/-! ## Codes -/

/-- A phase: 0 BALL, 1 STITCH (Section 10.4). -/
def phaseCode : Phase → Nat
  | .ball => 0
  | .stitch => 1

/-- A pull mode (Section 10.4). -/
def modeCode : PullMode → Nat
  | .ballLift => 0
  | .neck => 1
  | .span => 2
  | .heel => 3
  | .stitchLift => 4
  | .void => 5

/-- A fail action (R185). -/
def actionCode : FailAction → Nat
  | .log => 0
  | .hold => 1
  | .holdReject => 2

/-- A store state, by its order in Section 3.3 (R186). -/
def storeStateCode : StoreState → Nat
  | .off => 0
  | .ready => 1
  | .busy => 2
  | .draining => 3

/-- A requester class, by its order in the table of R57 (R186; log entry 12). -/
def classCode : ReqKind → Nat
  | .mapFetch _ => 0
  | .bondWrite _ _ => 1
  | .bondRead _ _ => 2
  | .pullWrite => 3
  | .mapWrite => 4
  | .mapRead => 5
  | .recordRead _ _ => 6

/-- A role (R185). -/
def roleCode : Role → Nat
  | .vacant => 0
  | .headBoard _ => 1
  | .indexer => 2
  | .pullTester => 3
  | .other => 4

/-- The head number carried with a role, 0 when there is none. -/
def roleHead : Role → Nat
  | .headBoard h => h.toNat
  | .vacant | .indexer | .pullTester | .other => 0

/-- An input slot state, by its order in R75. -/
def inSlotCode : InSlot → Nat
  | .unknown => 0
  | .empty => 1
  | .loaded => 2
  | .pulled => 3

/-- An output slot state, by its order in R76. -/
def outSlotCode : OutSlot → Nat
  | .unknown => 0
  | .empty => 1
  | .filled _ => 2
  | .filledForeign => 3

/-- An alarm kind, by its order in R123 (R186). -/
def alarmKindCode : AlarmKind → Nat
  | .bondFault => 0
  | .unmapped => 1
  | .noProgram => 2
  | .monitorOverrun => 3
  | .pullAlarm => 4
  | .pullExpired => 5
  | .outputFull => 6
  | .inputEmpty => 7
  | .stripStarved => 8
  | .storeFault => 9
  | .ringLost => 10
  | .panelAbsent => 11

/-- An alarm source (R186). -/
def alarmSourceCode : AlarmSource → Nat
  | .head h => h.toNat
  | .lane l => 2 + l.toNat
  | .input => 4
  | .feeder => 5
  | .store => 6
  | .ring => 7
  | .panel p => 8 + p.val

/-- The outcome of a pull record (Section 10.5). -/
def outcomeCode : PullOutcome → Nat
  | .pass => 0
  | .fail => 1
  | .void => 2
  | .expired => 3

/-- The verdict item of the notice selection (R185). -/
def verdictSelectCode : VerdictSelect → Nat
  | .none => 0
  | .fails => 1
  | .all => 2

/-- The reasons of the ask replies (R186). -/
inductive AskReason where
  | argument
  | duplicate
  | empty
  | purged
  | abandoned
  | stripDone
  | noStrip
  | full
  deriving DecidableEq, Repr

/-- The code of an ask reply's reason (R186). -/
def askReasonCode : AskReason → Nat
  | .argument => 1
  | .duplicate => 2
  | .empty => 3
  | .purged => 4
  | .abandoned => 5
  | .stripDone => 6
  | .noStrip => 7
  | .full => 8

/-- The reasons of a REFUSED command (R175). -/
inductive Reason where
  | argument
  | state
  | store
  | notFound
  deriving DecidableEq, Repr

/-- The code of a REPLY's reason (Section 10.4). -/
def reasonCode : Reason → Nat
  | .argument => 1
  | .state => 2
  | .store => 3
  | .notFound => 4

/-! ## Records in the store (Section 10.5) -/

/-- A wire map entry in its four bytes; NONE is written as 0xFF. -/
def entryBytes (e : MapEntry) : List Byte :=
  [boolByte e.valid, oneByte e.ball.val, oneByte e.stitch.val,
   match e.pullClass with
   | some c => oneByte c.val
   | none => 0xFF]

/-- The wire map entry that four bytes hold (R32, R183): the bits above the valid mark and above the two
groups are ignored, and a class of 8 or more is NONE. -/
def entryOf (bs : List Byte) : MapEntry :=
  { valid := (bs.getD 0 0).getLsbD 0
    ball := Fin.ofNat 64 (byteAt bs 1)
    stitch := Fin.ofNat 64 (byteAt bs 2)
    pullClass := index? 8 (byteAt bs 3) }

/-- A wire map entry as it is stored, for MAP_READ (R35): the bits that R183 ignores as the part reads it are
written as 0, and the class byte is whole. -/
def storedEntry (bs : List Byte) : List Byte :=
  [bs.getD 0 0 &&& 0x01, bs.getD 1 0 &&& 0x3F, bs.getD 2 0 &&& 0x3F, bs.getD 3 0]

/-- The bond record of 24 bytes of an issued context, numbered `k`. -/
def bondRecordBytes (k : BitVec 32) (c : Context) (j : Judgement) : List Byte :=
  le 2 k.toNat
  ++ [oneByte (bitsOf [c.unitRef.isSome, j.group.isSome]), oneByte (verdictCode j.verdict)]
  ++ le 2 (c.wire % 1024 + 1024 * c.head.toNat + 2048 * phaseCode c.phase + 4096 * c.bank.val)
  ++ le 2 ((c.unitRef.map fun u => u.strip.toNat).getD 0)
  ++ [oneByte ((c.unitRef.map fun u => u.unit).getD 0), oneByte ((j.group.map fun g => g.val).getD 0)]
  ++ le 2 (faultBits j.faults)
  ++ [oneByte (marksBits c.marks)]
  ++ le 2 j.energy ++ le 2 j.deform
  ++ le 3 (j.stick % 1024 + 1024 * c.accepted)
  ++ le 4 k.toNat

/-- A bond data part in its six bytes; verdict, energy and deformation are 0 unless FOUND. -/
def dataPartBytes : DataPart → List Byte
  | .absent => [0, 0, 0, 0, 0, 0]
  | .found v e d => [1, v] ++ le 2 e ++ le 2 d
  | .notYet => [2, 0, 0, 0, 0, 0]
  | .lost => [3, 0, 0, 0, 0, 0]
  | .fault => [4, 0, 0, 0, 0, 0]

/-- A pull record in its 32 bytes with `k` in its stored-number fields. -/
def pullRecordBytes (k : BitVec 32) (r : PullRecord) : List Byte :=
  le 2 k.toNat
  ++ [oneByte (bitsOf [r.pullClass.isSome, r.force.isSome]),
      oneByte (outcomeCode r.outcome + 4 * r.lane.toNat + flagBit r.issued 3
        + flagBit ((r.force.map fun f => f.clamped).getD false) 4)]
  ++ le 2 r.strip.toNat
  ++ [oneByte r.unit, oneByte ((r.pullClass.map fun c => c.val).getD 0)]
  ++ le 2 r.wire
  ++ le 2 ((r.force.map fun f => f.force).getD 0)
  ++ [oneByte ((r.force.map fun f => modeCode f.mode).getD 0)]
  ++ dataPartBytes r.ball ++ dataPartBytes r.stitch
  ++ le 3 r.time
  ++ le 4 k.toNat

/-- The stored-number check (R66): the record read is whole for number `k`. -/
def wholeFor (k : BitVec 32) (bs : List Byte) : Bool :=
  word16At bs 0 == k.toNat % 65536 && word32At bs (bs.length - 4) == k.toNat

/-- The bond data of a record that a lookback found (R108): verdict, energy and deformation. -/
def foundPart (bs : List Byte) : DataPart := .found (bs.getD 3 0) (word16At bs 13) (word16At bs 15)

/-! ## Fields of replies and notices (R186) -/

/-- A phase window among the arguments of R185. -/
def windowBytes (w : PhaseWindow) : List Byte :=
  le 2 w.energyMin ++ le 2 w.energyMax ++ le 2 w.deformMin ++ le 2 w.deformMax
  ++ [oneByte w.stickBand] ++ le 2 w.minSamples ++ [oneByte (actionCode w.action)]

/-- A bond group: its valid mark and both windows (R31). -/
def groupBytes (g : BondGroup) : List Byte :=
  [boolByte g.valid] ++ windowBytes g.ball ++ windowBytes g.stitch

/-- The width argument of STORE_CONFIG; 0 for none (log entry 12). -/
def widthCode : Option Width → Nat
  | none => 0
  | some .eight => 8
  | some .sixteen => 16

/-- The store configuration as among the arguments of R185, without the starting numbers. -/
def storeConfigBytes (c : StoreConfig) : List Byte :=
  [oneByte (widthCode c.width), boolByte c.readyUsed, oneByte (c.accessTime.getD 0),
   oneByte (c.timeout.getD 0)]
  ++ le 4 c.mapBase ++ le 4 c.bondBase ++ le 2 c.bondCap ++ le 4 c.pullBase ++ le 2 c.pullCap

/-- The optional fields of a subject: strip number, unit, wire (log entry 12). -/
def subjectFlags (x : Option Subject) : List Bool :=
  match x with
  | none => [false, false, false]
  | some s => [s.strip.isSome, s.unit.isSome, s.wire.isSome]

/-- The fields of an alarm entry (R127), absent fields written as 0. -/
def alarmFields (a : Alarm) : List Byte :=
  let s : Subject := a.subject.getD ⟨none, none, none⟩
  le 2 a.number.toNat ++ [oneByte (alarmKindCode a.kind), oneByte (alarmSourceCode a.source)]
  ++ le 2 ((s.strip.map fun x => x.toNat).getD 0) ++ [oneByte (s.unit.getD 0)] ++ le 2 (s.wire.getD 0)
  ++ [oneByte a.count] ++ le 4 a.raised.toNat ++ le 4 a.lastRaised.toNat

/-- The content of a VERDICT notice (R25). -/
def verdictNotice (c : Context) (j : Judgement) (k : Option (BitVec 32)) : List Byte :=
  presence [c.unitRef.isSome, k.isSome]
  ++ [oneByte c.head.toNat] ++ le 2 c.sequence.toNat ++ [oneByte (phaseCode c.phase)] ++ le 2 c.wire
  ++ le 2 ((c.unitRef.map fun u => u.strip.toNat).getD 0)
  ++ [oneByte ((c.unitRef.map fun u => u.unit).getD 0)]
  ++ le 4 ((k.map fun x => x.toNat).getD 0)
  ++ [oneByte (verdictCode j.verdict)] ++ le 2 (faultBits j.faults) ++ [oneByte (marksBits c.marks)]
  ++ le 2 j.energy ++ le 2 j.deform ++ le 2 j.stick

/-- How many units of a strip have a status. -/
def unitCount (s : Strip) (x : UnitStatus) : Nat := s.units.countP fun u => u.status == x

/-- The counts of GOOD, SUSPECT, REJECT and SKIP units (R94). -/
def unitCounts (s : Strip) : List Byte :=
  [oneByte (unitCount s .good), oneByte (unitCount s .suspect), oneByte (unitCount s .reject),
   oneByte (unitCount s .skip)]

/-- A strip mark: a length byte, 0 when absent, and its characters (R186). -/
def markBytes (m : List Byte) : List Byte := oneByte m.length :: m

/-- The header of a STRIP notice: kind, lane and strip number (R94). -/
def stripHead (kind : Nat) (l : Side) (n : BitVec 16) : List Byte :=
  [oneByte kind, oneByte l.toNat] ++ le 2 n.toNat

/-- A STRIP notice of kind PULLED (R94). -/
def pulledNotice (l : Side) (n : BitVec 16) (slot : Nat) : List Byte := stripHead 0 l n ++ [oneByte slot]

/-- A STRIP notice of kind MOVED (R94), with the strips at BOND and EXIT after the move. -/
def movedNotice (l : Side) (bond exit : Option (BitVec 16)) : List Byte :=
  presence [bond.isSome, exit.isSome]
  ++ stripHead 1 l ((bond.orElse fun _ => exit).getD 0)
  ++ le 2 (bond.getD 0).toNat ++ le 2 (exit.getD 0).toNat

/-- A STRIP notice of kind EJECTED (R94). -/
def ejectedNotice (l : Side) (s : Strip) (slot : Nat) : List Byte :=
  stripHead 2 l s.number ++ [oneByte slot] ++ markBytes s.mark ++ unitCounts s
  ++ le 2 s.passed.toNat ++ le 2 s.failed.toNat ++ [boolByte s.sampled]

/-- A STRIP notice of kind PURGED (R94), with the position from which the strip was purged. -/
def purgedNotice (l : Side) (s : Strip) (position : Nat) : List Byte :=
  stripHead 3 l s.number ++ [oneByte position] ++ markBytes s.mark ++ unitCounts s
  ++ le 2 s.passed.toNat ++ le 2 s.failed.toNat

/-- The content of a PULL notice (R110, R111): the record, with its pull number when it has one. -/
def pullNotice (k : Option (BitVec 32)) (r : PullRecord) : List Byte :=
  presence [k.isSome] ++ pullRecordBytes (k.getD 0) r

/-- The actions of an ALARM notice (R127). -/
inductive AlarmAction where
  | raised
  | coalesced
  | acknowledged
  | removed
  deriving DecidableEq, Repr

/-- The code of an ALARM notice's action, by its order in R127. -/
def alarmActionCode : AlarmAction → Nat
  | .raised => 0
  | .coalesced => 1
  | .acknowledged => 2
  | .removed => 3

/-- The content of an ALARM notice (R127). -/
def alarmNotice (x : AlarmAction) (a : Alarm) : List Byte :=
  presence (subjectFlags a.subject) ++ [oneByte (alarmActionCode x)] ++ alarmFields a

/-- The content of a BOND_WRAP or PULL_WRAP notice (R65). -/
def wrapNotice (k : BitVec 32) (cap : Nat) : List Byte := le 4 k.toNat ++ le 2 cap

/-- The content of a STORE notice (R53 to R55). -/
def storeNotice (s : RecordStore) : List Byte :=
  [oneByte (storeStateCode s.state)] ++ le 4 s.wb.toNat ++ le 4 s.wp.toNat

end Sys2Proof.Machine
end

