-- ==== Sys2Proof/Machine/Outbound.lean ====
section
/-! DEFINITION. The outbound queue of the Ring Port (Section 8.7): reply places, replies and notices, and
the replies of the Command Unit (Section 9.1). -/

namespace Sys2Proof.Machine

/-- The part's own station number as a byte of a parcel header. -/
def ownStation (p : Part) : Byte := p.rp.station.setWidth 8

/-- A parcel is a NOTICE (kind 0x12). -/
def isNotice (q : Parcel) : Bool := q.kind == 0x12

/-- How many notices the outbound queue holds. -/
def noticeCount (p : Part) : Nat := p.rp.outbound.countP isNotice

/-- Queued parcels and reserved reply places together (R167). -/
def outboundTotal (p : Part) : Nat := p.rp.outbound.length + p.rp.reservations

/-- The places of the outbound queue (R167). -/
def outboundPlaces : Nat := 32

/-- The most notices that the queue holds (R167, R168). -/
def noticePlaces : Nat := 24

/-- The bytes of a REPLY before its data: command code, status and reason (Section 10.4). -/
def replyHead : Nat := 3

/-- The payload that is sent: one of at most 240 bytes as it is (Section 8.2). A longer one keeps its command
code, status and reason (R175), and what follows them is free (log entry 2). -/
def sentPayload (pl : List Byte) : List Byte :=
  if pl.length ≤ maxPayload then pl
  else pl.take replyHead ++ (Config.overlongPayload pl).take (maxPayload - replyHead)

/-- A parcel joins the tail of the outbound queue (R167). -/
def queueParcel (p : Part) (q : Parcel) : Part :=
  setRp p { p.rp with outbound := p.rp.outbound ++ [q] }

/-- A block offers a notice (R168): it takes the next tag, and is queued when the queue holds fewer than 24
notices and the total is below 32, or else is dropped and counted. -/
def offerNotice (p : Part) (kind : Nat) (content : List Byte) : Part :=
  let q : Parcel := ⟨0x12, ownStation p, 0, p.rp.noticeTag, oneByte kind :: content⟩
  let room := decide (noticeCount p < noticePlaces) && decide (outboundTotal p < outboundPlaces)
  let p := setRp p { p.rp with noticeTag := p.rp.noticeTag + 1 }
  if room then queueParcel p q
  else countRing p fun c => { c with noticesDropped := inc c.noticesDropped }

/-- Offer a notice that its selection admits, or do nothing (R168: a refused notice is never offered). -/
def offerIf (admitted : Bool) (p : Part) (kind : Nat) (content : List Byte) : Part :=
  if admitted then offerNotice p kind content else p

/-- A block gives its reply (R165): it joins the tail of the queue and its reservation is given up. -/
def giveReply (p : Part) (kind : Byte) (asker : Ask) (payload : List Byte) : Part :=
  let p := queueParcel p ⟨kind, ownStation p, asker.station, asker.tag, sentPayload payload⟩
  setRp p { p.rp with reservations := p.rp.reservations - 1 }

/-- The denial of an ask: its reason alone (R186). -/
def denyAsk (p : Part) (kind : Byte) (asker : Ask) (r : AskReason) : Part :=
  giveReply p kind asker [oneByte (askReasonCode r)]

/-- The command in progress completes with DONE and data (R174, R175, R182). -/
def replyDone (p : Part) (data : List Byte) : Part :=
  match p.cu.inProgress with
  | none => p
  | some c =>
    let p := giveReply p 0x11 ⟨c.station, c.tag⟩ ([c.code, 0, 0] ++ data)
    setCu p { p.cu with inProgress := none, done := inc p.cu.done }

/-- The command in progress completes with REFUSED and a reason (R174, R175, R182). -/
def replyRefused (p : Part) (r : Reason) : Part :=
  match p.cu.inProgress with
  | none => p
  | some c =>
    let p := giveReply p 0x11 ⟨c.station, c.tag⟩ [c.code, 1, oneByte (reasonCode r)]
    setCu p { p.cu with inProgress := none, refused := inc p.cu.refused }

/-! ## The notices of each block, by their kind codes (Section 10.4) -/

/-- Offer a VERDICT notice if the selection admits the verdict (R25, R176). -/
def offerVerdict (p : Part) (c : Context) (j : Judgement) (k : Option (BitVec 32)) : Part :=
  let admitted :=
    match p.cu.select.verdicts with
    | .all => true
    | .fails => j.verdict != .pass
    | .none => false
  offerIf admitted p 1 (verdictNotice c j k)

/-- Offer a STRIP notice if STRIP notices are admitted (R94). -/
def offerStrip (p : Part) (content : List Byte) : Part := offerIf p.cu.select.strips p 2 content

/-- Offer a PULL notice if PULL notices are admitted (R110, R111). -/
def offerPull (p : Part) (k : Option (BitVec 32)) (r : PullRecord) : Part :=
  offerIf p.cu.select.pulls p 3 (pullNotice k r)

/-- Offer an ALARM notice if ALARM notices are admitted (R127). -/
def offerAlarm (p : Part) (x : AlarmAction) (a : Alarm) : Part :=
  offerIf p.cu.select.alarms p 4 (alarmNotice x a)

/-- Offer a BOND_WRAP notice if wrap notices are admitted (R65). -/
def offerBondWrap (p : Part) (k : BitVec 32) (cap : Nat) : Part :=
  offerIf p.cu.select.wraps p 5 (wrapNotice k cap)

/-- Offer a PULL_WRAP notice if wrap notices are admitted (R65). -/
def offerPullWrap (p : Part) (k : BitVec 32) (cap : Nat) : Part :=
  offerIf p.cu.select.wraps p 6 (wrapNotice k cap)

/-- Offer a STORE notice; it is not subject to selection (R65, R176). -/
def offerStore (p : Part) : Part := offerNotice p 7 (storeNotice p.store)

end Sys2Proof.Machine
end

