-- ==== Sys2Proof/Machine/Live.lean ====
section
/-! DEFINITION. The live items (R148), and the dirty lines and alarm selections of the panels that follow
the state of the part (R151, R155). -/

namespace Sys2Proof.Machine

/-- The value of a live item: absent, a number, or a text. -/
inductive LiveValue where
  | absent
  | num (n : Nat)
  | text (t : List Byte)
  deriving DecidableEq, Repr

/-- The text of a verdict (R148). -/
def verdictText : Verdict → List Byte
  | .unmapped => chars ['U', 'N', 'M', 'A', 'P', 'P', 'E', 'D']
  | .noProgram => chars ['N', 'O', 'P', 'R', 'O', 'G']
  | .incomplete => chars ['I', 'N', 'C', 'O', 'M', 'P', 'L']
  | .short => chars ['S', 'H', 'O', 'R', 'T']
  | .noContact => chars ['N', 'O', 'C', 'O', 'N', 'T', 'C', 'T']
  | .nonStick => chars ['N', 'O', 'N', 'S', 'T', 'I', 'C', 'K']
  | .lowEnergy => chars ['L', 'O', 'W', 'E', 'N', 'R', 'G', 'Y']
  | .highEnergy => chars ['H', 'I', 'E', 'N', 'R', 'G', 'Y']
  | .lowDeform => chars ['L', 'O', 'W', 'D', 'E', 'F']
  | .highDeform => chars ['H', 'I', 'D', 'E', 'F']
  | .pass => chars ['P', 'A', 'S', 'S']

/-- The text of HOLD_STATE: the first reason present in the order of R129, or RUN (R135). -/
def holdText (x : HeadHolds) : List Byte :=
  if x.laneOff then chars ['L', 'A', 'N', 'E', 'O', 'F', 'F']
  else if x.bondFault then chars ['B', 'O', 'N', 'D', 'F', 'L', 'T']
  else if x.unmapped then chars ['U', 'N', 'M', 'A', 'P', 'P', 'E', 'D']
  else if x.noProgram then chars ['N', 'O', 'P', 'R', 'O', 'G']
  else if x.storeFault then chars ['S', 'T', 'O', 'R', 'E']
  else if x.ringLost then chars ['R', 'I', 'N', 'G', 'L', 'O', 'S', 'T']
  else if x.operator then chars ['O', 'P', 'E', 'R', 'A', 'T', 'O', 'R']
  else chars ['R', 'U', 'N']

/-- A unit has a final status (R83, R87). -/
def isFinal : UnitStatus → Bool
  | .good | .suspect | .reject => true
  | .pending | .skip | .active | .closing => false

/-- A number that may be absent, as a live value. -/
def liveOption : Option Nat → LiveValue
  | none => .absent
  | some n => .num n

/-- The value of a per-head or per-lane item for head or lane `h` (R148). -/
def liveOfSide (p : Part) (item : LiveItem) (cls : Fin 8) (h : Side) : LiveValue :=
  let lane := p.st.lanes.get h
  let ch := p.bm.channels.get h
  let w := (p.pru.windows.get h).get cls
  match item with
  | .stripAtBond => liveOption (lane.bond.map fun s => s.number.toNat)
  | .unitsDone => liveOption (lane.bond.map fun s => s.units.countP fun u => isFinal u.status)
  | .unitsTotal => .num lane.config.units
  | .holdState => .text (holdText (p.ahu.heads.get h))
  | .bondsIssued => .num ch.counters.issued.toNat
  | .bondsFailed => .num ch.counters.failed.toNat
  | .lastVerdict =>
    match ch.last with
    | none => .absent
    | some x => .text (verdictText x.verdict)
  | .lastEnergy => liveOption (ch.last.map fun x => x.energy)
  | .lastDeform => liveOption (ch.last.map fun x => x.deform)
  | .pullMean => if w.n = 0 then .absent else .num (w.sum / w.n)
  | .pullFails => .num w.fails
  | .outputFree => .num (vcount (fun x => x == .empty) lane.outMap)
  | .pendingPulls | .alarmCount | .inputLoaded | .ringState => .absent

/-- The value of a live item; `h` is the head or lane that the selector resolves to, absent when it resolves
to nothing. Items without a head or lane ignore it (R148). -/
def liveValue (p : Part) (item : LiveItem) (cls : Fin 8) (h : Option Side) : LiveValue :=
  match item with
  | .pendingPulls => .num p.pru.pulls.length
  | .alarmCount => .num p.ahu.alarms.length
  | .inputLoaded => .num (vcount (fun x => x == .loaded) p.st.inMap)
  | .ringState => .text (if p.rp.up then chars ['U', 'P'] else chars ['L', 'O', 'S', 'T'])
  | .stripAtBond | .unitsDone | .unitsTotal | .holdState | .bondsIssued | .bondsFailed | .lastVerdict
  | .lastEnergy | .lastDeform | .pullMean | .pullFails | .outputFree =>
    match h with
    | none => .absent
    | some h => liveOfSide p item cls h

/-- The head or lane that a selector resolves to on a panel of head `own` (R148). -/
def resolveSelector (own : Option Side) : Selector → Option Side
  | .own => own
  | .side h => some h

/-- The value that a slot binds, on a panel of head `own` (R148). -/
def slotValue (p : Part) (own : Option Side) (s : FieldSlot) : LiveValue :=
  liveValue p s.item s.pullClass (resolveSelector own s.selector)

/-- The template line `l` of page `g` (R147). -/
def templateOf (p : Part) (g : Fin 4) (l : Fin 8) : Template := (p.pnc.templates.get g).get l

/-- Mark dirty the lines that `f` names; a line already dirty stays dirty once (R151). -/
def markLines (x : Panel) (f : Fin 8 → Bool) : Panel :=
  { x with dirty := allLines.filter fun l => f l || x.dirty.contains l }

/-- Mark all eight lines dirty. -/
def markAllLines (x : Panel) : Panel := { x with dirty := allLines }

/-- The lines 1 to 7 of the alarms page. -/
def alarmLine (l : Fin 8) : Bool := l.val != 0

/-- Mark lines 1 to 7 if the panel's page is the alarms page (R151). -/
def markAlarmLines (x : Panel) : Panel := if x.page = 1 then markLines x alarmLine else x

/-- A line of the page a panel shows has a slot whose value differs between two states (R151). -/
def lineChanged (before after : Part) (x : Panel) (l : Fin 8) : Bool :=
  (templateOf after x.page l).slots.any fun s => slotValue before x.head s != slotValue after x.head s

/-- A live item changes value (R151): on each enabled panel, mark every line of its page that binds an
item whose value differs from that in `before`. -/
def markLive (before after : Part) : Part :=
  modPanels after fun x => if x.enabled then markLines x (lineChanged before after x) else x

/-- Carry out one change of the part and mark the lines whose live items it changed. Every operation that
changes a live item goes through it, so that each change marks its lines in the event itself (R151; log
entry 24). -/
def tracked (f : Part → Part) (p : Part) : Part := markLive p (f p)

/-! ## Changes of the blocks that provide live items -/

/-- Change a lane, whose records, units, configuration and output slots four live items show. -/
def modLane (p : Part) (l : Side) (f : Lane → Lane) : Part :=
  tracked (fun p => setSt p { p.st with lanes := p.st.lanes.set l (f (p.st.lanes.get l)) }) p

/-- Change the hold set of head `h`, which HOLD_STATE shows (Holds.lean says what a set that empties sets
off). -/
def modHead (p : Part) (h : Side) (f : HeadHolds → HeadHolds) : Part :=
  tracked (fun p => setAhu p { p.ahu with heads := p.ahu.heads.set h (f (p.ahu.heads.get h)) }) p

/-- Replace the input slot map, whose LOADED slots INPUT_LOADED counts. -/
def setInMap (p : Part) (m : Vector InSlot 40) : Part :=
  tracked (fun p => setSt p { p.st with inMap := m }) p

/-- Replace the alarm list, whose entries ALARM_COUNT counts (R135). -/
def setAlarms (p : Part) (as : List Alarm) : Part :=
  tracked (fun p => setAhu p { p.ahu with alarms := as }) p

/-- Set the ring UP or LOST, which RING_STATE shows. -/
def setRing (p : Part) (up : Bool) : Part := tracked (fun p => setRp p { p.rp with up := up }) p

/-- Change the pull windows of a lane, whose means and fail counts PULL_MEAN and PULL_FAILS show. -/
def modWindows (p : Part) (l : Side) (f : Vector PullWindow 8 → Vector PullWindow 8) : Part :=
  tracked (fun p => setPru p { p.pru with windows := p.pru.windows.set l (f (p.pru.windows.get l)) }) p

/-! ## Alarm selections (R155) -/

/-- The oldest entry of the alarm list. -/
def oldestAlarm (as : List Alarm) : Option (BitVec 16) := as.head?.map fun a => a.number

/-- The next newer entry than the one numbered `n`, in list order. -/
def newerAlarm : List Alarm → BitVec 16 → Option (BitVec 16)
  | [], _ => none
  | a :: as, n => if a.number = n then oldestAlarm as else newerAlarm as n

/-- The next older entry than the one numbered `n`. -/
def olderAlarm (as : List Alarm) (n : BitVec 16) : Option (BitVec 16) := newerAlarm as.reverse n

/-- Set a panel's selection; a change marks its alarms lines (R151). -/
def setSelection (x : Panel) (s : Option (BitVec 16)) : Panel :=
  if x.selection = s then x else markAlarmLines { x with selection := s }

/-- The selections follow the departure of the entry numbered `n` from the list `before` (R155), and the
alarms lines of every enabled panel are marked, the list having changed (R151). -/
def followDeparture (p : Part) (before : List Alarm) (n : BitVec 16) : Part :=
  modPanels p fun x =>
    if x.enabled then
      markAlarmLines <|
        if x.selection = some n then
          setSelection x ((newerAlarm before n).orElse fun _ => olderAlarm before n)
        else x
    else x

/-- The selections follow an entry that joined the list `before` (R155), and the alarms lines of every
enabled panel are marked. -/
def followJoin (p : Part) (before : List Alarm) (n : BitVec 16) : Part :=
  modPanels p fun x =>
    if x.enabled then
      markAlarmLines <|
        if before.isEmpty && x.selection.isNone then setSelection x (some n) else x
    else x

/-- A coalesced raise leaves the selections and marks the alarms lines (R151, R155). -/
def followChange (p : Part) : Part :=
  modPanels p fun x => if x.enabled then markAlarmLines x else x

end Sys2Proof.Machine
end

