-- ==== Sys2Proof/Machine/Alarms.lean ====
section
/-! DEFINITION. The alarm list: raising, coalescing and the departure of entries (Sections 6.1 to 6.4).
Acknowledgement, which may release holds, stands in Holds.lean. -/

namespace Sys2Proof.Machine

/-- From `n` on, the first number that no entry of the list carries, within `k` advances (R121). -/
def freeNumber : Nat → List Alarm → BitVec 16 → BitVec 16
  | 0, _, n => n
  | k + 1, as, n => if as.any (fun a => a.number == n) then freeNumber k as (n + 1) else n

/-- The entry of a kind and source (R120: there is at most one). -/
def sameAlarm (k : AlarmKind) (src : AlarmSource) (a : Alarm) : Bool := a.kind == k && a.source == src

/-- Add the hold reasons that R123 gives for a kind and source. -/
def addReasons (p : Part) (k : AlarmKind) (src : AlarmSource) : Part :=
  let p := modHead p .zero (addHeadReason k src .zero)
  let p := modHead p .one (addHeadReason k src .one)
  let p := modFeeder p .zero (addFeederReason k src .zero)
  modFeeder p .one (addFeederReason k src .one)

/-- A raise that finds no entry of its kind and source (R122). -/
def raiseNew (p : Part) (k : AlarmKind) (src : AlarmSource) (x : Option Subject) : Part :=
  let before := p.ahu.alarms
  let a : Alarm := ⟨p.ahu.nextNumber, k, src, x, 1, p.time, p.time⟩
  let after := before ++ [a]
  let p := setAlarms p after
  let p := setAhu p { p.ahu with
    nextNumber := freeNumber after.length after (p.ahu.nextNumber + 1) }
  let p := countAlarms p fun c => { c with raised := inc c.raised }
  let p := addReasons p k src
  let p := offerAlarm p .raised a
  followJoin p before a.number

/-- The entry `a` with one more raise folded in (R122). -/
def coalesced (now : BitVec 32) (x : Option Subject) (a : Alarm) : Alarm :=
  { a with count := incTo 255 a.count, subject := x, lastRaised := now }

/-- A raise that finds the entry `a` of its kind and source (R122). -/
def raiseAgain (p : Part) (k : AlarmKind) (src : AlarmSource) (x : Option Subject) (a : Alarm) : Part :=
  let now := p.time
  let p := setAhu p { p.ahu with
    alarms := p.ahu.alarms.map fun b => if sameAlarm k src b then coalesced now x b else b }
  let p := countAlarms p fun c => { c with coalesced := inc c.coalesced }
  let p := addReasons p k src
  let p := offerAlarm p .coalesced (coalesced now x a)
  followChange p

/-- A raise at the Alarm and Hold Unit (R122). -/
def raiseAlarm (p : Part) (k : AlarmKind) (src : AlarmSource) (x : Option Subject) : Part :=
  match p.ahu.alarms.find? (sameAlarm k src) with
  | none => raiseNew p k src x
  | some a => raiseAgain p k src x a

/-- An entry leaves the list, and the panels' selections follow (R124, R126, R155). -/
def takeOutAlarm (p : Part) (a : Alarm) : Part :=
  let before := p.ahu.alarms
  let p := setAlarms p (before.filter fun b => b.number != a.number)
  followDeparture p before a.number

/-- The PANEL_ABSENT entry of a panel that answers again is removed, if it is in the list (R126). -/
def removeAbsent (p : Part) (i : Fin 4) : Part :=
  match p.ahu.alarms.find? (sameAlarm .panelAbsent (.panel i)) with
  | none => p
  | some a => offerAlarm (takeOutAlarm p a) .removed a

/-- The subject of a unit and wire. -/
def unitSubject (u : UnitRef) (wire : Nat) : Subject := ⟨some u.strip, some u.unit, some wire⟩

end Sys2Proof.Machine
end

