-- ==== Sys2Proof/Machine/Store.lean ====
section
/-! DEFINITION. The request queue of the Record Store Controller (Sections 3.2 to 3.4, 3.6, 3.7): the
addresses of items, hand-in, record numbers, and lookbacks. -/

namespace Sys2Proof.Machine

/-! ## Regions and addresses (R52) -/

/-- The bytes of the store (R49). -/
def storeBytes : Nat := 1048576

/-- The length of the MAP region (R32). -/
def mapRegionBytes : Nat := 16384

/-- Two regions share no byte. -/
def apart (a la b lb : Nat) : Bool := la == 0 || lb == 0 || a + la ≤ b || b + lb ≤ a

/-- The regions of a configuration fit below 1 MB and share no byte (R52). -/
def regionsFit (c : StoreConfig) : Bool :=
  c.mapBase + mapRegionBytes ≤ storeBytes
    && c.bondBase + c.bondCap * 24 ≤ storeBytes
    && c.pullBase + c.pullCap * 32 ≤ storeBytes
    && apart c.mapBase mapRegionBytes c.bondBase (c.bondCap * 24)
    && apart c.mapBase mapRegionBytes c.pullBase (c.pullCap * 32)
    && apart c.bondBase (c.bondCap * 24) c.pullBase (c.pullCap * 32)

/-- The address of the map entry of a key (R32). -/
def mapAddress (c : StoreConfig) (key : MapKey) : Nat := c.mapBase + (key.bank.val * 1024 + key.wire) * 4

/-- The position of the bond record numbered `k` (R63). -/
def bondPosition (c : StoreConfig) (k : BitVec 32) : Nat := k.toNat % c.bondCap

/-- The position of the pull record numbered `k` (R64). -/
def pullPosition (c : StoreConfig) (k : BitVec 32) : Nat := k.toNat % c.pullCap

/-- The address of the bond record numbered `k` (R63). -/
def bondAddress (c : StoreConfig) (k : BitVec 32) : Nat := c.bondBase + 24 * bondPosition c k

/-- The address of the pull record numbered `k` (R64). -/
def pullAddress (c : StoreConfig) (k : BitVec 32) : Nat := c.pullBase + 32 * pullPosition c k

/-! ## Hand-in -/

/-- The store is in service: READY or BUSY (Section 3.3). -/
def inService (p : Part) : Bool := p.store.state == .ready || p.store.state == .busy

/-- A request handed in while the store is in service (R57): it joins the tail; at a READY store the store
becomes BUSY and its first access begins. -/
def enqueue (p : Part) (r : Request) : Part :=
  let s := { p.store with queue := p.store.queue ++ [r] }
  if p.store.state = .ready then setStore p { s with state := .busy, done := 0, got := [] }
  else setStore p s

/-- A request handed in while the store is OFF or DRAINING completes with STORE_FAULT at once (R56). -/
def countFaulted (p : Part) : Part := countStore p fun c => { c with faulted := inc c.faulted }

/-- A MAP_FETCH request for a key, its address computed as it is queued (R33, R37). -/
def fetchRequest (p : Part) (key : MapKey) : Request :=
  { kind := .mapFetch key, addr := mapAddress p.store.config key, len := 4, data := [] }

/-- The requests of the Pull Record Unit (R57). -/
def isPullRequest (r : Request) : Bool :=
  match r.kind with
  | .bondRead _ _ | .pullWrite => true
  | .mapFetch _ | .bondWrite _ _ | .mapWrite | .mapRead | .recordRead _ _ => false

/-- How many of the Pull Record Unit's two places are free (R108). -/
def pullPlaces (p : Part) : Nat := 2 - p.store.queue.countP isPullRequest

/-! ## Record numbers (R63 to R65) -/

/-- A bond record is numbered and its BOND_WRITE is queued in a write slot, with a BOND_WRAP notice where
R65 calls for one (R20 step 1, R63). Used only while the store is in service. -/
def writeBondRecord (p : Part) (c : Context) (j : Judgement) (slot : Side) : Part :=
  let k := p.store.wb
  let cfg := p.store.config
  let p := setStore p { p.store with wb := k + 1 }
  let p := enqueue p
    { kind := .bondWrite c.head slot, addr := bondAddress cfg k, len := 24,
      data := bondRecordBytes k c j }
  let p := modChannel p c.head fun ch => { ch with slots := ch.slots.set slot (some k) }
  if bondPosition cfg k = 0 ∧ cfg.bondCap ≤ k.toNat then offerBondWrap p k cfg.bondCap else p

/-- A pull record is numbered and its PULL_WRITE is queued, with a PULL_WRAP notice where R65 calls for one
and a PULL notice (R64, R110). Used only while the store is in service. -/
def writePullRecord (p : Part) (r : PullRecord) : Part :=
  let k := p.store.wp
  let cfg := p.store.config
  let p := setStore p { p.store with wp := k + 1 }
  let p := enqueue p
    { kind := .pullWrite, addr := pullAddress cfg k, len := 32, data := pullRecordBytes k r }
  let p := if pullPosition cfg k = 0 ∧ cfg.pullCap ≤ k.toNat then offerPullWrap p k cfg.pullCap else p
  offerPull p (some k) r

/-! ## Lookbacks (R67) -/

/-- The outcomes of a lookback (R67). -/
inductive Lookback where
  | found (record : List Byte)
  | notYet
  | lost
  | fault
  deriving DecidableEq, Repr

/-- The request that reads the record of number `k` of a region. -/
def lookbackRequest (c : StoreConfig) (kind : ReqKind) (region : Region) (k : BitVec 32) : Request :=
  match region with
  | .bondRing => { kind := kind, addr := bondAddress c k, len := 24, data := [] }
  | .pullLog => { kind := kind, addr := pullAddress c k, len := 32, data := [] }

/-- The next number of a region. -/
def nextNumber (s : RecordStore) : Region → BitVec 32
  | .bondRing => s.wb
  | .pullLog => s.wp

/-- A lookback is handed in (R67): it completes FAULT out of service, NOT_YET for a number not yet
assigned, and is queued otherwise. The outcome is absent when it is queued. -/
def handInLookback (p : Part) (kind : ReqKind) (region : Region) (k : BitVec 32) :
    Part × Option Lookback :=
  if !inService p then (countFaulted p, some .fault)
  else if (nextNumber p.store region).toNat ≤ k.toNat then
    (countStore p fun c => { c with notYet := inc c.notYet }, some .notYet)
  else (enqueue p (lookbackRequest p.store.config kind region k), none)

/-- A lookback whose read completed with the bytes `bs` (R67): FOUND if the record is whole for `k`, or
else LOST. -/
def judgeLookback (p : Part) (k : BitVec 32) (bs : List Byte) : Part × Lookback :=
  if wholeFor k bs then (p, .found bs)
  else (countStore p fun c => { c with lost := inc c.lost }, .lost)

/-! ## The access in progress (R49, R50) -/

/-- The bytes of one access: 1 in 8-bit mode, 2 in 16-bit mode (R50). -/
def accessWidth (c : StoreConfig) : Nat :=
  match c.width with
  | some .sixteen => 2
  | some .eight | none => 1

/-- How many accesses a request takes (R50). -/
def accessCount (c : StoreConfig) (r : Request) : Nat :=
  (r.len + accessWidth c - 1) / accessWidth c

/-- The byte address of access `i` of a request (R50). -/
def accessAddress (c : StoreConfig) (r : Request) (i : Nat) : Nat :=
  portAddress (r.addr + i * accessWidth c)

/-- A request writes the store. -/
def isWrite (r : Request) : Bool :=
  match r.kind with
  | .bondWrite _ _ | .pullWrite | .mapWrite => true
  | .mapFetch _ | .bondRead _ _ | .mapRead | .recordRead _ _ => false

/-- The data of access `i` of a write (R49, R50). -/
def accessData (c : StoreConfig) (r : Request) (i : Nat) : List Byte :=
  (r.data.drop (i * accessWidth c)).take (accessWidth c)

/-- The store port while an access is in progress (Section 0.4): SA19 to SA0, and SD with SWE for a write
(`none` is a read, with SOE). SCE is asserted exactly while there is one. -/
def storePort (p : Part) : Option (Nat × Option (List Byte)) :=
  if p.store.state = .busy ∨ p.store.state = .draining then
    p.store.queue.head?.map fun r =>
      (accessAddress p.store.config r p.store.done,
       if isWrite r then some (accessData p.store.config r p.store.done) else none)
  else none

end Sys2Proof.Machine
end

