-- ==== Sys2Proof/Machine/Cache.lean ====
section
/-! DEFINITION. The map cache: lookups, prefetch, invalidation and withdrawal (Sections 2.3, 2.4, 2.6,
2.7). The completion of fetches stands in Fetch.lean. -/

namespace Sys2Proof.Machine

/-- The most fetches in flight (R37). -/
def fetchPlaces : Nat := 4

/-- The entry that a cached-valid slot holds for a key (R36). -/
def cachedEntry (m : MapCache) (key : MapKey) : Option MapEntry :=
  m.slots.toList.findSome? fun s =>
    match s with
    | some c => if c.key = key then some c.entry else none
    | none => none

/-- The fetch list holds a fetch for the key, stale or not. -/
def inFlight (m : MapCache) (key : MapKey) : Bool := m.fetches.any fun f => f.key == key

/-- The place-wait list with a lookup at the place that its start order gives it (R38). -/
def insertWait (w : PlaceWait) : List PlaceWait → List PlaceWait
  | [] => [w]
  | x :: xs => if w.waiter.start < x.waiter.start then w :: x :: xs else x :: insertWait w xs

/-- A fetch for a key enters the fetch list and its MAP_FETCH request is queued (R37). Used only while the
store is in service. -/
def startFetch (p : Part) (key : MapKey) (ws : List Waiter) : Part :=
  let p := enqueue p (fetchRequest p key)
  setMap p { p.map with fetches := p.map.fetches ++ [⟨key, false, ws⟩] }

/-- A new fetch at a store that is OFF or DRAINING completes at once with STORE_FAULT (R39, R41, R56). -/
def faultFetch (p : Part) : Part :=
  countMap (countFaulted p) fun c => { c with fetchFaults := inc c.fetchFaults }

/-- The examination of a lookup (R39): the first case that applies. `onList` says that the lookup already
stands on the place-wait list, where it then stays without being counted again (R43, R48). -/
def examineLookup (p : Part) (key : MapKey) (w : Waiter) (onList : Bool) : Part × LookupState :=
  match cachedEntry p.map key with
  | some e => (countMap p fun c => { c with hits := inc c.hits }, .resolved (.entry e))
  | none =>
    if inFlight p.map key then
      let p := setMap p { p.map with
        fetches := p.map.fetches.map fun f =>
          if f.key = key then { f with waiters := f.waiters ++ [w] } else f }
      (countMap p fun c => { c with joins := inc c.joins }, .pending)
    else if p.map.fetches.length < fetchPlaces then
      let p := countMap p fun c => { c with fetches := inc c.fetches }
      if inService p then (startFetch p key [w], .pending)
      else (faultFetch p, .resolved .storeFault)
    else if onList then (p, .waitingForFetchPlace)
    else
      let p := setMap p { p.map with placeWait := insertWait ⟨key, w⟩ p.map.placeWait }
      (countMap p fun c => { c with placeWaits := inc c.placeWaits }, .waitingForFetchPlace)

/-- A party hands a lookup in (R39): it takes the next place of the start order (R38) and is examined. -/
def startLookup (p : Part) (key : MapKey) (party : Party) : Part × LookupState :=
  let w : Waiter := ⟨party, p.map.started⟩
  examineLookup (setMap p { p.map with started := p.map.started + 1 }) key w false

/-- A fetched entry is inserted at the fill pointer, which advances (R36). -/
def insertEntry (p : Part) (key : MapKey) (e : MapEntry) : Part :=
  setMap p { p.map with
    slots := vset p.map.slots p.map.fill (some ⟨key, e⟩)
    fill := p.map.fill + 1 }

/-- The key that a prefetch after the wire of a STITCH context considers (R44). -/
def nextKey (c : Context) (wires : Nat) : MapKey :=
  if c.wire + 1 < wires then ⟨c.bank, c.wire + 1⟩ else ⟨c.bank, 0⟩

/-- The prefetch considered at the issue of a STITCH context (R44). -/
def prefetch (p : Part) (c : Context) : Part :=
  let key := nextKey c (p.st.lanes.get c.head).config.wires
  if c.phase = .stitch ∧ inService p ∧ (cachedEntry p.map key).isNone ∧ !inFlight p.map key
      ∧ p.map.fetches.length + 2 ≤ fetchPlaces then
    countMap (startFetch p key []) fun k => { k with prefetches := inc k.prefetches }
  else p

/-- A flush: every slot is cleared and every fetch in flight is marked stale (R45). -/
def flushCache (p : Part) : Part :=
  setMap p { p.map with
    slots := Vector.replicate 16 none
    fetches := p.map.fetches.map fun f => { f with stale := true } }

/-- MAP_WRITE's invalidation of one key (R34, R45). -/
def invalidateKey (p : Part) (key : MapKey) : Part :=
  setMap p { p.map with
    slots := vmap (fun s =>
      match s with
      | some c => if c.key = key then none else some c
      | none => none) p.map.slots
    fetches := p.map.fetches.map fun f => if f.key = key then { f with stale := true } else f }

/-- The lookups that `q` names are withdrawn (R46): dropped from the waiters of their fetch or from the
place-wait list. -/
def withdrawLookups (p : Part) (q : Waiter → Bool) : Part :=
  setMap p { p.map with
    fetches := p.map.fetches.map fun f => { f with waiters := f.waiters.filter fun w => !q w }
    placeWait := p.map.placeWait.filter fun x => !q x.waiter }

/-- A lookup of a context of the channel of head `h`. -/
def ofChannel (h : Side) (w : Waiter) : Bool :=
  match w.party with
  | .ctx g _ => g == h
  | .pull => false

/-- A lookup of the Pull Record Unit. -/
def ofPulls (w : Waiter) : Bool := w.party == .pull

/-- The lookup of a RESOLVING class is withdrawn (R46, R102). -/
def withdrawClass (p : Part) (c : ClassState) : Part :=
  match c with
  | .settled _ => p
  | .resolving s => withdrawLookups p fun w => ofPulls w && w.start == s

end Sys2Proof.Machine
end

