-- ==== Sys2Proof/Machine/Pulls.lean ====
section
/-! DEFINITION. The Pull Record Unit: sampling, the pending pull list, correlation and composition of pull
results, the write list, and pull windows (Chapter 5). -/

namespace Sys2Proof.Machine

/-- Increment a counter `n` times. -/
def incMany : Nat → Count → Count
  | 0, c => c
  | k + 1, c => incMany k (inc c)

/-- Part time in minutes, rounded down (R1). -/
def minutes (p : Part) : Nat := p.time.toNat / 60000

/-- Replace the pending pull list; a change of its length marks the lines that bind PENDING_PULLS (R103). -/
def setPulls (p : Part) (l : List PendingPull) : Part :=
  tracked (fun p => setPru p { p.pru with pulls := l }) p

/-- Change a lane's sampling state. -/
def modSampling (p : Part) (l : Side) (f : Sampling → Sampling) : Part :=
  setPru p { p.pru with sampling := p.pru.sampling.set l (f (p.pru.sampling.get l)) }

/-! ## Pull windows (R113 to R115) -/

/-- The least force held; absent when there is none. -/
def leastForce : List HeldForce → Option Nat
  | [] => none
  | x :: xs =>
    match leastForce xs with
    | none => some x.force
    | some m => some (min x.force m)

/-- The forces that a window holds at most (R113). -/
def windowPlaces : Nat := 32

/-- The oldest force leaves a window, out of its count, sum and fail count (R113). -/
def dropOldest (w : PullWindow) : PullWindow :=
  match w.forces with
  | [] => w
  | x :: xs =>
    { w with
      forces := xs
      n := w.n - 1
      sum := w.sum - x.force
      fails := w.fails - (if x.fail then 1 else 0) }

/-- A force joins a window with its outcome, the oldest leaving a full one (R113). -/
def insertForce (w : PullWindow) (force : Nat) (fail : Bool) : PullWindow :=
  let w := if windowPlaces ≤ w.n then dropOldest w else w
  let forces := w.forces ++ [⟨force, fail⟩]
  { w with
    forces := forces
    n := w.n + 1
    sum := w.sum + force
    min := leastForce forces
    fails := w.fails + (if fail then 1 else 0) }

/-- The window trips against the limits of its class (R114). -/
def windowTrips (w : PullWindow) (c : PullClass) : Bool :=
  c.failLimit ≤ w.fails || (w.n == windowPlaces && w.sum / windowPlaces < c.meanLimit)

/-- Change the window of a lane and class. -/
def modWindow (p : Part) (l : Side) (c : Fin 8) (f : PullWindow → PullWindow) : Part :=
  modWindows p l fun ws => vmod ws c f

/-- Every tripped window of a lane is emptied when its PULL_ALARM is acknowledged (R115). -/
def emptyTripped (p : Part) (l : Side) : Part :=
  modWindows p l fun ws => vmap (fun w => if w.tripped then {} else w) ws

/-- The sampling state after a PASS or FAIL outcome of a record with a class (R98, R114 step 1). -/
def samplingAfter (plan : Plan) (fail : Bool) (s : Sampling) : Sampling :=
  if !s.tight then s
  else if fail then { s with passes := 0 }
  else if plan.tighten ≤ s.passes + 1 then { tight := false, count := 0, passes := 0 }
  else { s with passes := s.passes + 1 }

/-- The two steps of R114 for a PASS or FAIL outcome of lane `l` and class `c`: the sampling state, then the
window and its trip. -/
def applyOutcome (p : Part) (r : PullRecord) (force : Nat) (c : Fin 8) (fail : Bool) : Part :=
  let l := r.lane
  let p := modSampling p l (samplingAfter (p.pru.plans.get l) fail)
  let p := modWindow p l c fun w => insertForce w force fail
  let w := (p.pru.windows.get l).get c
  if windowTrips w (p.pru.classes.get c) then
    let p := modWindow p l c fun w => { w with tripped := true }
    let p := modSampling p l fun s => { s with tight := true, passes := 0 }
    raiseAlarm p .pullAlarm (.lane l) (some (unitSubject ⟨r.strip, r.unit⟩ r.wire))
  else p

/-! ## The write list (R110, R111) -/

/-- The oldest records of the write list are handed in while a place is free and the store is in service
(R110): at most two at once, since there are two places. -/
def handInWrites : Nat → Part → Part
  | 0, p => p
  | k + 1, p =>
    match p.pru.writeList with
    | [] => p
    | r :: rest =>
      if inService p && 0 < pullPlaces p then
        handInWrites k (writePullRecord (setPru p { p.pru with writeList := rest }) r)
      else p

/-- A record is sent out unwritten (R111). -/
def sendUnwritten (p : Part) (r : PullRecord) : Part :=
  offerPull (countPulls p fun c => { c with notWritten := inc c.notWritten }) none r

/-- A composed record joins the write list, or is sent out unwritten when the store is out of service (R110,
R111). -/
def giveRecord (p : Part) (r : PullRecord) : Part :=
  if inService p then
    handInWrites 2 (setPru p { p.pru with writeList := p.pru.writeList ++ [r] })
  else sendUnwritten p r

/-- The write list is full to all but the place kept for the correlation slot (R110). -/
def writesFull (p : Part) : Bool := inService p && 15 ≤ p.pru.writeList.length

/-- The record of an expiry: as `giveRecord`, but sent out unwritten when the write list holds 15 records
(R110; a tick does not get this far then, R104). -/
def giveExpired (p : Part) (r : PullRecord) : Part :=
  if writesFull p then sendUnwritten p r else giveRecord p r

/-- Every record on the write list is sent out unwritten as the store leaves service (R111). -/
def flushWrites (p : Part) : Part :=
  p.pru.writeList.foldl sendUnwritten (setPru p { p.pru with writeList := [] })

/-! ## The pending pull list (R101 to R105) -/

/-- The class of an entry as a record or a WORK_LIST carries it: absent while RESOLVING. -/
def classNow : ClassState → Option (Fin 8)
  | .settled c => c
  | .resolving _ => none

/-- The pull record of an expired entry (R105). -/
def expiredRecord (p : Part) (e : PendingPull) : PullRecord :=
  { strip := e.strip, lane := e.lane, unit := e.unit, wire := e.wire
    pullClass := classNow e.pullClass, issued := e.issued, force := none, outcome := .expired
    ball := .absent, stitch := .absent, time := minutes p }

/-- Two entries have the same strip number, unit and wire (R103). -/
def samePull (strip : BitVec 16) (unit wire : Nat) (e : PendingPull) : Bool :=
  e.strip == strip && e.unit == unit && e.wire == wire

/-- An entry expires (R105): at a tick, or by eviction. -/
def expirePull (p : Part) (e : PendingPull) (evicted : Bool) : Part :=
  let p := setPulls p (p.pru.pulls.filter fun x => !samePull e.strip e.unit e.wire x)
  let p := withdrawClass p e.pullClass
  let p := countPulls p fun c =>
    if evicted then { c with evicted := inc c.evicted } else { c with expired := inc c.expired }
  let p := giveExpired p (expiredRecord p e)
  raiseAlarm p .pullExpired (.lane e.lane) (some (unitSubject ⟨e.strip, e.unit⟩ e.wire))

/-- The places of the pending pull list (R103). -/
def pendingPlaces : Nat := 64

/-- The evictions before an append (R103): the entry of the same pull, and the oldest entry of a list that
is then full. -/
def evictFor (p : Part) (strip : BitVec 16) (unit wire : Nat) : Part :=
  let p :=
    match p.pru.pulls.find? (samePull strip unit wire) with
    | none => p
    | some e => expirePull p e true
  if p.pru.pulls.length < pendingPlaces then p
  else
    match p.pru.pulls with
    | [] => p
    | e :: _ => expirePull p e true

/-- The class that a resolution settles (R102); absent when the lookup fails to name one. -/
def classOf : Resolution → Option (Fin 8)
  | .entry e => if e.valid then e.pullClass else none
  | .unmapped => none
  | .storeFault => none

/-- The entry's class is RESOLVING by the lookup of start order `start`. -/
def resolvingBy (start : Nat) (e : PendingPull) : Bool := e.pullClass == .resolving start

/-- The class of the correlation slot's entry is settled (R102). -/
def settleSlot (s : CorrSlot) (start : Nat) (c : Option (Fin 8)) : CorrSlot :=
  match s with
  | .empty => .empty
  | .placeWait e r => .placeWait (if resolvingBy start e then { e with pullClass := .settled c } else e) r
  | .reading e r b t =>
    .reading (if resolvingBy start e then { e with pullClass := .settled c } else e) r b t

/-- A lookup of the Pull Record Unit resolves (R102): on the pending list the entry takes the class or is
removed; in the correlation slot the class is settled, absent if the lookup failed. -/
def settleClass (p : Part) (start : Nat) (r : Resolution) : Part :=
  if p.pru.pulls.any (resolvingBy start) then
    match classOf r with
    | some c =>
      setPru p { p.pru with
        pulls := p.pru.pulls.map fun e =>
          if resolvingBy start e then { e with pullClass := .settled (some c) } else e }
    | none =>
      let p := setPulls p (p.pru.pulls.filter fun e => !resolvingBy start e)
      countPulls p fun c => { c with selDropped := inc c.selDropped }
  else setPru p { p.pru with slot := settleSlot p.pru.slot start (classOf r) }

/-- A selection entry is appended to the pending pull list (R101, R103), and its class lookup, when it names
no class, is handed to the map cache. -/
def appendPull (strip : BitVec 16) (l : Side) (p : Part) (x : SelEntry) : Part :=
  let p := evictFor p strip x.unit x.wire
  let start := p.map.started
  let cls : ClassState :=
    match x.pullClass with
    | some c => .settled (some c)
    | none => .resolving start
  let p := setPulls p (p.pru.pulls ++
    [⟨strip, l, x.unit, x.wire, x.ball, x.stitch, false, 0, cls⟩])
  match x.pullClass with
  | some _ => p
  | none =>
    let out := startLookup p ⟨(p.st.lanes.get l).config.bank, x.wire⟩ .pull
    match out.2 with
    | .resolved r => settleClass out.1 start r
    | .pending => out.1
    | .waitingForFetchPlace => out.1

/-- A unit's final status is handed to the Pull Record Unit with the selection entries of the unit (R101). -/
def pullsOfUnit (p : Part) (strip : BitVec 16) (l : Side) (final : UnitStatus)
    (entries : List SelEntry) : Part :=
  if final = .reject then
    countPulls p fun c => { c with selDropped := incMany entries.length c.selDropped }
  else entries.foldl (appendPull strip l) p

/-- The entry is due at a tick: its lane's deadline is above 0 and its age has reached it (R104). -/
def isDue (p : Part) (e : PendingPull) : Bool :=
  let d := (p.pru.plans.get e.lane).deadline
  0 < d && d ≤ e.age

/-- One expiry at a tick: the oldest entry that is due, if the write list has a place for it (R104). -/
def expireOne (p : Part) : Option Part :=
  match p.pru.pulls.find? (isDue p) with
  | none => none
  | some e => if writesFull p then none else some (expirePull p e false)

/-- The entries that are due expire, oldest first, at most `k` of them (R104). -/
def expireDue : Nat → Part → Part
  | 0, p => p
  | k + 1, p =>
    match expireOne p with
    | none => p
    | some p' => expireDue k p'

/-- Every pending entry ages by one tick, saturating at 65,535 (R104). -/
def agePulls (p : Part) : Part :=
  setPru p { p.pru with pulls := p.pru.pulls.map fun e => { e with age := incTo 65535 e.age } }

/-- The effect of a minute tick on the pending pull list (R104). -/
def minuteEffects (p : Part) : Part :=
  let p := agePulls p
  expireDue p.pru.pulls.length p

/-! ## Correlation and composition (R107 to R109) -/

/-- The data part that a lookback's outcome gives (R108). -/
def partOf : Lookback → DataPart
  | .found bs => foundPart bs
  | .notYet => .notYet
  | .lost => .lost
  | .fault => .fault

/-- How many lookbacks an entry needs (R108). -/
def lookbacksNeeded (e : PendingPull) : Nat :=
  (if e.ball.isSome then 1 else 0) + (if e.stitch.isSome then 1 else 0)

/-- The lookback of one record number of the slot's entry is handed in; an absent number gives ABSENT. -/
def handInPart (p : Part) (ph : Phase) (k : Option (BitVec 32)) : Part × Option DataPart :=
  match k with
  | none => (p, some .absent)
  | some k =>
    let out := handInLookback p (.bondRead ph k) .bondRing k
    (out.1, out.2.map partOf)

/-- The outcome of a pull result (R109). -/
def pullOutcome (classes : Vector PullClass 8) (r : PullResult) : Option (Fin 8) → PullOutcome
  | none => if r.mode = .void then .void else .fail
  | some c =>
    if r.mode = .void then .void
    else if (classes.get c).minForce ≤ r.force ∧ accepts (classes.get c) r.mode then .pass
    else .fail

/-- Composition of the result in the slot (R109): the outcome, the sampling state and the window (R114), and
the record given to the write list or sent out unwritten. -/
def composeResult (p : Part) (e : PendingPull) (r : PullResult) (c : Option (Fin 8))
    (ball stitch : DataPart) : Part :=
  let out := pullOutcome p.pru.classes r c
  let rec' : PullRecord :=
    { strip := e.strip, lane := e.lane, unit := e.unit, wire := e.wire, pullClass := c
      issued := e.issued, force := some ⟨r.force, r.clamped, r.mode⟩, outcome := out
      ball := ball, stitch := stitch, time := minutes p }
  let p := setPru p { p.pru with slot := .empty }
  let p :=
    match out, c with
    | .pass, some c => applyOutcome p rec' r.force c false
    | .fail, some c => applyOutcome p rec' r.force c true
    | .fail, none | .pass, none | .void, _ | .expired, _ => p
  giveRecord p rec'

/-- One step of the correlation, if one can be made: the oldest result is examined (R107), the slot's
lookbacks are handed in (R108), or the slot's result is composed (R109). -/
def correlateStep (p : Part) : Option Part :=
  match p.pru.slot with
  | .empty =>
    match p.pru.intake with
    | [] => none
    | r :: rest =>
      let p := setPru p { p.pru with intake := rest }
      match p.pru.pulls.find? (samePull r.strip r.unit r.wire) with
      | none => some (countPulls p fun c => { c with unsolicited := inc c.unsolicited })
      | some e =>
        let p := setPulls p (p.pru.pulls.filter fun x => !samePull r.strip r.unit r.wire x)
        some (setPru p { p.pru with slot := .placeWait e r })
  | .placeWait e r =>
    if p.pru.writeList.isEmpty && lookbacksNeeded e ≤ pullPlaces p then
      let b := handInPart p .ball e.ball
      let s := handInPart b.1 .stitch e.stitch
      some (setPru s.1 { s.1.pru with slot := .reading e r b.2 s.2 })
    else none
  | .reading e r b s =>
    match b, s, e.pullClass with
    | some b, some s, .settled c => some (composeResult p e r c b s)
    | _, _, _ => none

/-- At most `k` steps of the correlation. -/
def correlate : Nat → Part → Part
  | 0, p => p
  | k + 1, p =>
    match correlateStep p with
    | none => p
    | some p' => correlate k p'

/-- The Pull Record Unit goes on as far as it can: write list first, then the correlation slot and the
intake queue (R107 to R110). A result takes at most three steps. -/
def pumpPulls (p : Part) : Part :=
  correlate (3 * (p.pru.intake.length + 1)) (handInWrites 2 p)

/-- A lookback of the correlation slot has an outcome (R108). -/
def resolvePart (p : Part) (ph : Phase) (x : Lookback) : Part :=
  match p.pru.slot with
  | .reading e r b s =>
    match ph with
    | .ball => setPru p { p.pru with slot := .reading e r (some (partOf x)) s }
    | .stitch => setPru p { p.pru with slot := .reading e r b (some (partOf x)) }
  | .empty => p
  | .placeWait _ _ => p

/-- The places of the intake queue (R107). -/
def intakePlaces : Nat := 8

/-- A snooped PULL_RESULT (R107). -/
def pullResult (p : Part) (pl : List Byte) : Part :=
  match modeOf (byteAt pl 7) with
  | none => countPulls p fun c => { c with malformed := inc c.malformed }
  | some m =>
    if p.pru.intake.length < intakePlaces then
      let force := word16At pl 5
      let r : PullResult :=
        { strip := BitVec.ofNat 16 (word16At pl 0), unit := byteAt pl 2, wire := word16At pl 3
          force := clampTo 4095 force, clamped := decide (4095 < force), mode := m }
      pumpPulls (setPru p { p.pru with intake := p.pru.intake ++ [r] })
    else countPulls p fun c => { c with dropped := inc c.dropped }

/-- An entry of a WORK_LIST (R186). -/
def workEntry (e : PendingPull) : List Byte :=
  presence [(classNow e.pullClass).isSome] ++ [oneByte e.unit] ++ le 2 e.wire
    ++ [oneByte (((classNow e.pullClass).map fun c => c.val).getD 0)]

/-- The most entries of a WORK_LIST (R106). -/
def workPlaces : Nat := 16

/-- Mark ISSUED the first `k` entries of a strip number (R106). -/
def issuePulls (n : BitVec 16) : Nat → List PendingPull → List PendingPull
  | _, [] => []
  | 0, es => es
  | k + 1, e :: es =>
    if e.strip = n then { e with issued := true } :: issuePulls n k es
    else e :: issuePulls n (k + 1) es

/-- A consumed WORK_ASK (R106). -/
def workAsk (p : Part) (a : Ask) (pl : List Byte) : Part :=
  let n := BitVec.ofNat 16 (word16At pl 0)
  let listed := (p.pru.pulls.filter fun e => e.strip == n).take workPlaces
  let p := setPru p { p.pru with pulls := issuePulls n workPlaces p.pru.pulls }
  giveReply p 0x38 a (oneByte listed.length :: (listed.map workEntry).flatten)

/-! ## Sampling (R99, R100) -/

/-- A list without the entries that repeat an earlier one's key. -/
def firstListed {α : Type} (key : α → Nat) : List Nat → List α → List α
  | _, [] => []
  | seen, x :: xs =>
    if seen.contains (key x) then firstListed key seen xs
    else x :: firstListed key (key x :: seen) xs

/-- The unit of that index of a strip is on its list and not SKIP. -/
def samplable (units : List UnitEntry) (u : Nat) : Bool :=
  match units[u]? with
  | none => false
  | some x => x.status != .skip

/-- The sample selection of a strip (R100). -/
def buildSelection (plan : Plan) (cfg : LaneConfig) (units : List UnitEntry) : List SelEntry :=
  let us := (firstListed id [] plan.units).filter fun u => u < cfg.units && samplable units u
  let ws := (firstListed PullPick.wire [] plan.pullSet).filter fun x => x.wire < cfg.wires
  us.flatMap fun u => ws.map fun x => ⟨u, x.wire, x.pullClass, none, none⟩

/-- The strip newly at a lane's BOND position is considered for sampling (R99). -/
def considerSampling (p : Part) (l : Side) : Part :=
  let s := p.pru.sampling.get l
  let plan := p.pru.plans.get l
  let c := incTo 255 s.count
  let sampled := s.tight || (0 < plan.interval && plan.interval ≤ c)
  let p := modSampling p l fun s =>
    if s.tight then s else { s with count := if sampled then 0 else c }
  if sampled then
    modLane p l fun lane =>
      { lane with bond := lane.bond.map fun st =>
          { st with sampled := true, selection := buildSelection plan lane.config st.units } }
  else p

/-! ## Purge and restart (R117, R118) -/

/-- A pending entry belongs to one of the purged strips (R117). -/
def ofStrips (ns : List (BitVec 16)) (e : PendingPull) : Bool := ns.contains e.strip

/-- The pending pulls of purged strips are removed (R117). -/
def purgePulls (p : Part) (ns : List (BitVec 16)) : Part :=
  let gone := p.pru.pulls.filter (ofStrips ns)
  let p := setPulls p (p.pru.pulls.filter fun e => !ofStrips ns e)
  let p := gone.foldl (fun p e => withdrawClass p e.pullClass) p
  countPulls p fun c => { c with purged := incMany gone.length c.purged }

/-- The work restart of the Pull Record Unit (R118); its lookbacks leave the store queue by
`restartQueue`. -/
def restartPulls (p : Part) : Part :=
  let p := withdrawLookups p ofPulls
  setPru p { p.pru with
    pulls := []
    intake := []
    slot := .empty
    sampling := Two.both {}
    windows := Two.both (Vector.replicate 8 {}) }

end Sys2Proof.Machine
end

