-- ==== Sys2Proof/Machine/Strips.lean ====
section
/-! DEFINITION. The Strip Tracker: strip records and their places, units, the elevator arbiter, moves,
ejects, purges and magazines (Chapter 4). -/

namespace Sys2Proof.Machine

/-! ## Strip records and their places (R73, R74) -/

/-- The lane positions, in the order of R91. -/
inductive Position where
  | pulling
  | pre
  | bond
  | exit
  deriving DecidableEq, Repr

/-- The positions in order. -/
def allPositions : List Position := [.pulling, .pre, .bond, .exit]

/-- The code of a position, by its order in Section 4.2. -/
def positionCode : Position → Nat
  | .pulling => 0
  | .pre => 1
  | .bond => 2
  | .exit => 3

/-- The record at a position of a lane. -/
def atPosition (l : Lane) : Position → Option Strip
  | .pulling => l.pulling
  | .pre => l.pre
  | .bond => l.bond
  | .exit => l.exit

/-- Replace the record at a position of a lane. -/
def setPosition (l : Lane) (x : Position) (s : Option Strip) : Lane :=
  match x with
  | .pulling => { l with pulling := s }
  | .pre => { l with pre := s }
  | .bond => { l with bond := s }
  | .exit => { l with exit := s }

/-- A place outside the pool: a lane position, or a place on the purged list. -/
inductive Place where
  | lane (l : Side) (x : Position)
  | purged (i : Nat)
  deriving DecidableEq, Repr

/-- Every lane position. -/
def allPlaces : List (Side × Position) :=
  allPositions.map (fun x => (Side.zero, x)) ++ allPositions.map (fun x => (Side.one, x))

/-- The record of a strip number stands at a position. -/
def standsAt (p : Part) (n : BitVec 16) (x : Side × Position) : Bool :=
  match atPosition (p.st.lanes.get x.1) x.2 with
  | some s => s.number == n
  | none => false

/-- Where the record of a strip number is (R73): at a lane position before the purged list, and on the
purged list the one purged first. Records in the pool are not found. Of two records at lane positions that of
lane 0 is taken, and on one lane that nearest PULLING: the model's choice (log entry 34). -/
def locate (p : Part) (n : BitVec 16) : Option Place :=
  match allPlaces.find? (standsAt p n) with
  | some x => some (.lane x.1 x.2)
  | none => (p.st.purged.findIdx? fun s => s.number == n).map .purged

/-- The record at a place. -/
def recordAt (p : Part) : Place → Option Strip
  | .lane l x => atPosition (p.st.lanes.get l) x
  | .purged i => p.st.purged[i]?

/-- Change the record at a place. -/
def modRecord (p : Part) (f : Strip → Strip) : Place → Part
  | .lane l x => modLane p l fun lane => setPosition lane x ((atPosition lane x).map f)
  | .purged i => setSt p { p.st with purged := p.st.purged.modify i f }

/-- Change a unit of the record at a place. -/
def modUnitAt (p : Part) (x : Place) (u : Nat) (f : UnitEntry → UnitEntry) : Part :=
  modRecord p (fun s => { s with units := s.units.modify u f }) x

/-- The head's ACTIVE unit (R84): the ACTIVE unit of the strip at its lane's BOND position. -/
def activeUnit (p : Part) (h : Side) : Option UnitRef :=
  match (p.st.lanes.get h).bond with
  | none => none
  | some s => (s.units.findIdx? fun u => u.status == .active).map fun i => ⟨s.number, i⟩

/-- Change the head's ACTIVE unit, if it has one. -/
def modActive (p : Part) (h : Side) (f : UnitEntry → UnitEntry) : Part :=
  match activeUnit p h with
  | none => p
  | some u => modUnitAt p (.lane h .bond) u.unit f

/-- The head's ACTIVE unit, if there is one, receives a SUSPECT mark (R8, R27). -/
def suspectActive (p : Part) (h : Side) : Part := modActive p h fun u => { u with suspectMark := true }

/-! ## Arbitration (R78 to R81) -/

/-- The lane's deferred FEED_ASK is in arbitration (R78). -/
def inArbitration (p : Part) (l : Side) : Bool :=
  let lane := p.st.lanes.get l
  lane.feedAsk.isSome && !feederHeld p l && lane.pulling.isNone && lane.pre.isNone

/-- The lane whose ask a run chooses (R80 step 2): the other lane than the last granted when both are in
arbitration. -/
def chosenLane (p : Part) : Option Side :=
  match inArbitration p .zero, inArbitration p .one with
  | true, true => some p.st.lastGranted.other
  | true, false => some .zero
  | false, true => some .one
  | false, false => none

/-- The record taken from the pool by a feed grant (R73). -/
def freshStrip (n : BitVec 16) (slot : Nat) (l : Side) : Strip := { number := n, slot := slot, lane := l }

/-- A feed grant to lane `l` of the slot `s` (R81). -/
def feedGrant (p : Part) (l : Side) (a : Ask) (s : Fin 40) : Part :=
  let n := p.st.nextStrip
  let p := setInMap p (vset p.st.inMap s .pulled)
  let p := setSt p { p.st with
    pool := p.st.pool - 1
    nextStrip := n + 1
    elevator := .busy l n
    lastGranted := l }
  let p := modLane p l fun lane => { lane with pulling := some (freshStrip n s.val l), feedAsk := none }
  let p := giveReply p 0x30 a (oneByte s.val :: le 2 n.toNat)
  offerStrip p (pulledNotice l n s.val)

/-- The chosen ask finds the pool empty (R80 step 3). -/
def starve (p : Part) (l : Side) (f : FeedAsk) : Part :=
  if f.starved then p
  else
    let p := modLane p l fun lane => { lane with feedAsk := some { f with starved := true } }
    let p := countStrips p fun c => { c with starvations := inc c.starvations }
    raiseAlarm p .stripStarved .feeder none

/-- The chosen ask finds no LOADED slot (R80 step 4). -/
def denyEmpty (p : Part) (l : Side) (f : FeedAsk) : Part :=
  let p := modLane p l fun lane => { lane with feedAsk := none }
  let p := denyAsk p 0x31 f.ask .empty
  raiseAlarm p .inputEmpty .input none

/-- A run of the arbiter (R80). It goes round again only after a denial, so that three rounds are enough. -/
def arbiterRun : Nat → Part → Part
  | 0, p => p
  | k + 1, p =>
    if p.st.elevator ≠ .idle then p
    else
      match chosenLane p with
      | none => p
      | some l =>
        match (p.st.lanes.get l).feedAsk with
        | none => p
        | some f =>
          if p.st.pool = 0 then starve p l f
          else
            match vfind (fun x => x == .loaded) p.st.inMap with
            | none => arbiterRun k (denyEmpty p l f)
            | some s => feedGrant p l f.ask s

/-- The arbiter runs (R80). -/
def runArbiter (p : Part) : Part := arbiterRun 3 p

/-- The arbiter runs if the lane's ask is now in arbitration (R78, R89, R133). -/
def mayEnter (p : Part) (l : Side) : Part := if inArbitration p l then runArbiter p else p

/-- A consumed FEED_ASK (R78). -/
def feedAsk (p : Part) (a : Ask) (pl : List Byte) : Part :=
  match side? (byteAt pl 0) with
  | none => denyAsk p 0x31 a .argument
  | some l =>
    if (p.st.lanes.get l).feedAsk.isSome then denyAsk p 0x31 a .duplicate
    else mayEnter (modLane p l fun lane => { lane with feedAsk := some ⟨a, false⟩ }) l

/-! ## Unit grants (R84) -/

/-- The answer to a UNIT_ASK of head `h` if its examination answers it (R84): absent when the head is held or
BOND is empty, and the ask is then deferred. -/
def decideUnit (p : Part) (h : Side) (a : Ask) : Option Part :=
  let lane := p.st.lanes.get h
  if headHeld p h then none
  else
    match lane.bond with
    | none => none
    | some s =>
      match s.units.findIdx? fun u => u.status == .pending with
      | none => some (denyAsk p 0x33 a .stripDone)
      | some i =>
        let p := modUnitAt p (.lane h .bond) i fun u => { u with status := .active }
        some (giveReply p 0x32 a
          (le 2 s.number.toNat ++ [oneByte i] ++ le 2 lane.config.wires ++ [oneByte lane.config.bank.val]))

/-- Set or clear the deferred UNIT_ASK of head `h`. -/
def setUnitAsk (p : Part) (h : Side) (a : Option Ask) : Part :=
  modLane p h fun lane => { lane with unitAsk := a }

/-- Head `h`'s deferred UNIT_ASK, if there is one, is examined (R84, R133). -/
def examineUnitAsk (p : Part) (h : Side) : Part :=
  match (p.st.lanes.get h).unitAsk with
  | none => p
  | some a =>
    match decideUnit p h a with
    | none => p
    | some p' => setUnitAsk p' h none

/-! ## Moves (R88, R89) -/

/-- A unit status that holds a move back (R88). -/
def holdsMove : UnitStatus → Bool
  | .pending | .active | .closing => true
  | .skip | .good | .suspect | .reject => false

/-- The conditions of a move grant to a lane (R88): EXIT empty, and no unit of the BOND strip unfinished or
still referred to. -/
def mayMove (lane : Lane) : Bool :=
  lane.exit.isNone &&
    match lane.bond with
    | none => true
    | some s => s.units.all fun u => !holdsMove u.status && u.refs == 0

/-- The lane's records one position on (R89). -/
def shiftLane (lane : Lane) : Lane := { lane with exit := lane.bond, bond := lane.pre, pre := none }

/-- A move grant to lane `l` (R89). -/
def moveGrant (p : Part) (l : Side) (a : Ask) : Part :=
  let lane := p.st.lanes.get l
  let p := modLane p l fun x => { x with moveAsk := none }
  let p := giveReply p 0x34 a []
  if lane.pre.isNone && lane.bond.isNone then p
  else
    let p := modLane p l shiftLane
    let p := offerStrip p
      (movedNotice l (lane.pre.map fun s => s.number) (lane.bond.map fun s => s.number))
    if lane.pre.isSome then examineUnitAsk (considerSampling (mayEnter p l) l) l else p

/-- The lane's deferred MOVE_ASK, if there is one, is examined (R88). -/
def examineMove (p : Part) (l : Side) : Part :=
  match (p.st.lanes.get l).moveAsk with
  | none => p
  | some a => if mayMove (p.st.lanes.get l) then moveGrant p l a else p

/-- A consumed MOVE_ASK (R88). -/
def moveAsk (p : Part) (a : Ask) (pl : List Byte) : Part :=
  match side? (byteAt pl 0) with
  | none => denyAsk p 0x35 a .argument
  | some l =>
    if (p.st.lanes.get l).moveAsk.isSome then denyAsk p 0x35 a .duplicate
    else examineMove (modLane p l fun lane => { lane with moveAsk := some a }) l

/-! ## Final status (R85 to R87) -/

/-- The final status of a CLOSING unit on a lane of `wires` wires per unit (R87). -/
def finalStatus (u : UnitEntry) (wires : Nat) : UnitStatus :=
  if u.rejectMark || u.wiresBonded.getD 0 < wires then .reject
  else if u.suspectMark then .suspect
  else .good

/-- The unit of index `i` of the record at place `x` takes its final status if it is CLOSING with no
reference left (R87); its selection entries go to the Pull Record Unit (R101), and the lane's deferred
MOVE_ASK is examined. -/
def closeUnit (p : Part) (x : Place) (i : Nat) : Part :=
  match recordAt p x with
  | none => p
  | some s =>
    match s.units[i]? with
    | none => p
    | some u =>
      if u.status = .closing ∧ u.refs = 0 then
        let final := finalStatus u (p.st.lanes.get s.lane).config.wires
        let p := modRecord p (fun s =>
          { s with
            units := s.units.modify i fun u => { u with status := final }
            selection := s.selection.filter fun e => e.unit != i }) x
        let p := pullsOfUnit p s.number s.lane final (s.selection.filter fun e => e.unit == i)
        match x with
        | .lane l _ => examineMove p l
        | .purged _ => p
      else p

/-- The head's ACTIVE unit `u` becomes CLOSING with `wires` bonded (R85, R86), and takes its final status if
no context refers to it. -/
def endUnit (p : Part) (h : Side) (u : UnitRef) (wires : Nat) : Part :=
  let p := modUnitAt p (.lane h .bond) u.unit fun x =>
    { x with status := .closing, wiresBonded := some wires }
  closeUnit p (.lane h .bond) u.unit

/-- A UNIT_ASK abandons the head's ACTIVE unit, if there is one (R85). -/
def abandonUnit (p : Part) (h : Side) : Part :=
  match activeUnit p h with
  | none => p
  | some u => endUnit (countStrips p fun c => { c with abandoned := inc c.abandoned }) h u 0

/-- A consumed UNIT_ASK from the station that the table gives head `h` (R84). -/
def unitAsk (p : Part) (h : Side) (a : Ask) (pl : List Byte) : Part :=
  if side? (byteAt pl 0) ≠ some h then denyAsk p 0x33 a .argument
  else if (p.st.lanes.get h).unitAsk.isSome then denyAsk p 0x33 a .duplicate
  else
    let p := abandonUnit p h
    match decideUnit p h a with
    | none => setUnitAsk p h (some a)
    | some p' => p'

/-- A snooped UNIT_END from the station that the table gives head `h` (R86). A count of wires bonded above 1,024
is recorded as it comes: log entry 31. -/
def unitEnd (p : Part) (h : Side) (pl : List Byte) : Part :=
  let named : UnitRef := ⟨BitVec.ofNat 16 (word16At pl 1), byteAt pl 3⟩
  if side? (byteAt pl 0) = some h ∧ activeUnit p h = some named then
    endUnit p h named (word16At pl 4)
  else countStrips p fun c => { c with strayEnds := inc c.strayEnds }

/-- The marks that a verdict or a discard delivers to a unit (R22, R26). -/
inductive UnitMark where
  | none
  | suspect
  | reject
  deriving DecidableEq, Repr

/-- A unit with a mark added (R83). -/
def addMark (m : UnitMark) (u : UnitEntry) : UnitEntry :=
  match m with
  | .none => u
  | .suspect => { u with suspectMark := true }
  | .reject => { u with rejectMark := true }

/-- A bond context of head `h` releases its reference with a mark (R23, R26, R87). `passed` is the count that
a verdict adds to: bonds passed, bonds failed, or neither at channel off. -/
def releaseUnit (p : Part) (h : Side) (u : Option UnitRef) (m : UnitMark) (passed : Option Bool) :
    Part :=
  match u, u.bind fun u => locate p u.strip with
  | some u, some x =>
    let p := modUnitAt p x u.unit fun e => { addMark m e with refs := e.refs - 1 }
    let p := modRecord p (fun s =>
      match passed with
      | some true => { s with passed := inc s.passed }
      | some false => { s with failed := inc s.failed }
      | none => s) x
    let p := closeUnit p x u.unit
    match x with
    | .lane l .bond => examineMove p l
    | .lane _ _ => p
    | .purged _ => p
  | _, _ => countChannel p h fun c => { c with outsideUnit := inc c.outsideUnit }

/-- An issued record number is set in the matching sample selection entry (R24). -/
def setSelectionNumber (p : Part) (c : Context) (k : Option (BitVec 32)) : Part :=
  match c.unitRef with
  | none => p
  | some u =>
    match locate p u.strip with
    | none => p
    | some x =>
      modRecord p (fun s =>
        if s.sampled then
          { s with selection := s.selection.map fun e =>
              if e.unit = u.unit ∧ e.wire = c.wire then
                match c.phase with
                | .ball => { e with ball := k }
                | .stitch => { e with stitch := k }
              else e }
        else s) x

/-! ## Ejects (R90) -/

/-- A record enters the pool, which runs the arbiter (R74, R80). -/
def intoPool (p : Part) : Part := runArbiter (setSt p { p.st with pool := p.st.pool + 1 })

/-- A consumed EJECT_ASK (R90). -/
def ejectAsk (p : Part) (a : Ask) (pl : List Byte) : Part :=
  match side? (byteAt pl 0) with
  | none => denyAsk p 0x37 a .argument
  | some l =>
    match (p.st.lanes.get l).exit with
    | none => denyAsk p 0x37 a .noStrip
    | some s =>
      match vfind (fun x => x == .empty) (p.st.lanes.get l).outMap with
      | none =>
        let p := denyAsk p 0x37 a .full
        raiseAlarm p .outputFull (.lane l) (some ⟨some s.number, none, none⟩)
      | some i =>
        let p := modLane p l fun lane =>
          { lane with outMap := vset lane.outMap i (.filled s.number), exit := none }
        let p := giveReply p 0x36 a [oneByte i.val]
        let p := offerStrip p (ejectedNotice l s i.val)
        examineMove (intoPool p) l

/-! ## Magazines and strip events (R77, R82, R93) -/

/-- A snooped MAG_EVENT (R77). -/
def magEvent (p : Part) (pl : List Byte) : Part :=
  let listed := ((pl.drop 3).take (byteAt pl 2)).map fun b => b.toNat
  let loaded := byteAt pl 1 = 0
  let p := if loaded ∧ listed.any (fun n => 40 ≤ n) then
      countStrips p fun c => { c with magIgnored := inc c.magIgnored }
    else p
  if byteAt pl 0 = 0 then
    setInMap p (vtab 40 fun i =>
      if loaded then (if listed.contains i then .loaded else .empty) else .unknown)
  else
    modLane p (if byteAt pl 0 = 1 then .zero else .one) fun lane =>
      { lane with
        outMap := vtab 40 fun i =>
          if loaded then (if listed.contains i then .filledForeign else .empty) else .unknown }

/-- The unit list built at an arrival (R83). -/
def buildUnits (u : Nat) (skips : List Nat) : List UnitEntry :=
  (List.range u).map fun i => { status := if skips.contains i then .skip else .pending }

/-- The elevator becomes IDLE, which runs the arbiter (R79). -/
def freeElevator (p : Part) : Part := runArbiter (setSt p { p.st with elevator := .idle })

/-- The elevator is carrying this record of the purged list for lane `l` (R79, R82). -/
def carriedPurged (p : Part) (l : Side) (s : Strip) : Bool :=
  p.st.elevator == .busy l s.number && s.lane == l && !s.arrived && s.units.isEmpty

/-- A snooped STRIP_EVENT of kind ARRIVED (R82). -/
def stripArrived (p : Part) (pl : List Byte) : Part :=
  let m := byteAt pl 2
  let mark := (pl.drop 3).take m
  let skips := ((pl.drop (4 + m)).take (byteAt pl (3 + m))).map fun b => b.toNat
  let untracked := countStrips p fun c => { c with untrackedArrivals := inc c.untrackedArrivals }
  match side? (byteAt pl 1) with
  | none => untracked
  | some l =>
    match (p.st.lanes.get l).pulling with
    | some s =>
      freeElevator <| modLane p l fun lane =>
        { lane with
          pulling := none
          pre := some { s with mark := mark, units := buildUnits lane.config.units skips } }
    | none =>
      match p.st.purged.findIdx? (carriedPurged p l) with
      | some i => freeElevator (modRecord p (fun s => { s with arrived := true }) (.purged i))
      | none => untracked

/-- A snooped STRIP_EVENT of kind REMOVED (R93). The purged list alone is searched: log entry 32. -/
def stripRemoved (p : Part) (pl : List Byte) : Part :=
  let n := BitVec.ofNat 16 (word16At pl 1)
  match p.st.purged.findIdx? fun s => s.number == n with
  | none => countStrips p fun c => { c with untrackedRemovals := inc c.untrackedRemovals }
  | some i =>
    let carried := (p.st.purged[i]?.map fun s => !s.arrived && s.units.isEmpty).getD false
    let p := setSt p { p.st with purged := p.st.purged.eraseIdx i, pool := p.st.pool + 1 }
    if carried then freeElevator p else runArbiter p

/-- A snooped STRIP_EVENT (Section 10.3). -/
def stripEvent (p : Part) (pl : List Byte) : Part :=
  if byteAt pl 0 = 0 then stripArrived p pl else stripRemoved p pl

/-! ## Purge (R91, R92) -/

/-- A unit after the purge of its strip (R91). -/
def purgeUnit (u : UnitEntry) : UnitEntry := if holdsMove u.status then { u with status := .reject } else u

/-- A record as it joins the purged list: its unfinished units are REJECT and its selection is empty (R91,
R117). -/
def purgeStrip (s : Strip) : Strip := { s with units := s.units.map purgeUnit, selection := [] }

/-- The records of a lane with their positions, in the order of R91. -/
def laneRecords (lane : Lane) : List (Position × Strip) :=
  allPositions.filterMap fun x => (atPosition lane x).map fun s => (x, s)

/-- Answer an ask that waits, if there is one. -/
def answerAsk (a : Option Ask) (f : Part → Ask → Part) (p : Part) : Part :=
  match a with
  | none => p
  | some a => f p a

/-- The four positions of a lane empty, and no ask deferred. -/
def clearLane (lane : Lane) : Lane :=
  { lane with
    pulling := none, pre := none, bond := none, exit := none
    feedAsk := none, moveAsk := none, unitAsk := none }

/-- A lane purge (R91, R92, R117). -/
def lanePurge (p : Part) (l : Side) : Part :=
  let lane := p.st.lanes.get l
  let gone := (laneRecords lane).map fun x => (x.1, purgeStrip x.2)
  let p := modLane p l clearLane
  let p := setSt p { p.st with purged := p.st.purged ++ gone.map fun x => x.2 }
  let p := answerAsk lane.unitAsk (fun p a => denyAsk p 0x33 a .purged) p
  let p := answerAsk (lane.feedAsk.map fun f => f.ask) (fun p a => denyAsk p 0x31 a .purged) p
  let p := answerAsk lane.moveAsk (fun p a => giveReply p 0x34 a []) p
  let p := purgePulls p (gone.map fun x => x.2.number)
  gone.foldl (fun p x => offerStrip p (purgedNotice l x.2 (positionCode x.1))) p

/-! ## Work restart (R96) -/

/-- A lane after a work restart: its configuration and configured mark are kept. -/
def restartLane (lane : Lane) : Lane := { config := lane.config, configured := lane.configured }

/-- The work restart of the Strip Tracker (R96); LANE_OFF is added by `restartHolds`. -/
def restartStrips (p : Part) : Part :=
  let a := p.st.lanes.zero
  let b := p.st.lanes.one
  let p := answerAsk (a.feedAsk.map fun f => f.ask) (fun p x => denyAsk p 0x31 x .abandoned) p
  let p := answerAsk (b.feedAsk.map fun f => f.ask) (fun p x => denyAsk p 0x31 x .abandoned) p
  let p := answerAsk a.unitAsk (fun p x => denyAsk p 0x33 x .abandoned) p
  let p := answerAsk b.unitAsk (fun p x => denyAsk p 0x33 x .abandoned) p
  let p := answerAsk a.moveAsk (fun p x => denyAsk p 0x35 x .abandoned) p
  let p := answerAsk b.moveAsk (fun p x => denyAsk p 0x35 x .abandoned) p
  setSt p { p.st with
    lanes := ⟨restartLane a, restartLane b⟩
    purged := []
    pool := 10
    inMap := Vector.replicate 40 .unknown
    elevator := .idle }

end Sys2Proof.Machine
end

