-- ==== Sys2Proof/Machine/Holds.lean ====
section
/-! DEFINITION. Releasing holds: acknowledgement, RESUME, lanes enabled, the ring returning, and what each
hold set that becomes empty sets off (Sections 4.1, 6.3, 6.5). -/

namespace Sys2Proof.Machine

/-- The hold sets that were not empty in `before` and are empty now are acted on (R133): a head's deferred
UNIT_ASK is examined, and a lane's deferred FEED_ASK may enter arbitration. Where one event empties both head
sets, or both feeder sets, number 0 is taken first: the model's choice (log entry 10). -/
def actOnEmptied (before : Part) (p : Part) : Part :=
  let p := if headHeld before .zero && !headHeld p .zero then examineUnitAsk p .zero else p
  let p := if headHeld before .one && !headHeld p .one then examineUnitAsk p .one else p
  let p := if feederHeld before .zero && !feederHeld p .zero then mayEnter p .zero else p
  if feederHeld before .one && !feederHeld p .one then mayEnter p .one else p

/-- A change of hold sets that may empty them. -/
def releasing (f : Part → Part) (p : Part) : Part := actOnEmptied p (f p)

/-- The hold reasons of an entry's kind are removed from the sets that R124 names. -/
def dropReasons (p : Part) (k : AlarmKind) (src : AlarmSource) : Part :=
  let p := modHead p .zero (dropHeadReason k src .zero)
  let p := modHead p .one (dropHeadReason k src .one)
  let p := modFeeder p .zero (dropFeederReason k src .zero)
  modFeeder p .one (dropFeederReason k src .one)

/-- Acknowledging a PULL_ALARM empties the tripped windows of its lane (R115, R124 step 3). -/
def emptyWindowsOf (p : Part) (a : Alarm) : Part :=
  match a.kind, a.source with
  | .pullAlarm, .lane l => emptyTripped p l
  | _, _ => p

/-- An acknowledgement of an alarm number (R124); absent when no entry carries it. -/
def ackAlarm (p : Part) (n : BitVec 16) : Option Part :=
  match p.ahu.alarms.find? fun a => a.number == n with
  | none => none
  | some a =>
    some <| releasing (fun p =>
      offerAlarm (emptyWindowsOf (dropReasons (takeOutAlarm p a) a.kind a.source) a) .acknowledged a) p

/-- An acknowledgement that names a number that no entry carries is counted (R124). -/
def refuseAck (p : Part) : Part := countAlarms p fun c => { c with refused := inc c.refused }

/-- HOLD for a head (R132). -/
def holdHead (p : Part) (h : Side) : Part := modHead p h fun x => { x with operator := true }

/-- RESUME for a head (R132). -/
def resumeHead (p : Part) (h : Side) : Part :=
  releasing (fun p => modHead p h fun x => { x with operator := false }) p

/-- A lane becomes ENABLED (R72); LANE_OFF leaves its sets by `dropLaneOff`. -/
def enableLane (p : Part) (l : Side) : Part := modLane p l fun lane => { lane with enabled := true }

/-- LANE_OFF leaves the head and feeder sets of an enabled lane (R72). -/
def dropLaneOff (p : Part) (l : Side) : Part :=
  releasing (fun p =>
    modFeeder (modHead p l fun x => { x with laneOff := false }) l fun x => { x with laneOff := false }) p

/-- A lane becomes DISABLED: LANE_OFF joins its head and feeder sets (R72). -/
def disableLane (p : Part) (l : Side) : Part :=
  let p := modLane p l fun lane => { lane with enabled := false }
  let p := modHead p l fun x => { x with laneOff := true }
  modFeeder p l fun x => { x with laneOff := true }

/-- RING_LOST joins both head sets (R134, R170). -/
def addRingLost (p : Part) : Part :=
  modHead (modHead p .zero fun x => { x with ringLost := true }) .one fun x => { x with ringLost := true }

/-- RING_LOST leaves both head sets (R134, R170). -/
def dropRingLost (p : Part) : Part :=
  releasing (fun p =>
    modHead (modHead p .zero fun x => { x with ringLost := false }) .one
      fun x => { x with ringLost := false }) p

/-- A head hold set after a work restart: LANE_OFF, and RING_LOST if it was present (R129). -/
def restartHeadSet (x : HeadHolds) : HeadHolds := { ringLost := x.ringLost }

/-- The work restart of the Alarm and Hold Unit (R136). -/
def restartHolds (p : Part) : Part :=
  setAhu p { p.ahu with
    alarms := []
    heads := ⟨restartHeadSet p.ahu.heads.zero, restartHeadSet p.ahu.heads.one⟩
    feeders := Two.both {} }

end Sys2Proof.Machine
end

