-- ==== Sys2Proof/Machine/Bonds.lean ====
section
/-! DEFINITION. The bond monitor channels: opening, samples, closing, judgement and the bond arithmetic,
issue, and channel off (Chapter 1). -/

namespace Sys2Proof.Machine

/-! ## Samples (R10, R11) -/

/-- An accepted sample of index `j` is accumulated (R11). -/
def acceptSample (c : Context) (j : Nat) (x : Sample) : Context :=
  let window := if c.lastEight.length < 8 then c.lastEight else c.lastEight.drop 1
  { c with
    accepted := c.accepted + 1
    power := c.power + x.v * x.i
    firstEight := if j ≤ 7 then c.firstEight + x.i else c.firstEight
    lastEight := window ++ [x.i]
    z0 := if c.z0.isNone ∧ c.touchdown ≤ x.f then some x.z else c.z0
    lastHeight := some x.z }

/-- The last two rows of the table of R10, for a sample of the expected index `j`. -/
def takeExpected (c : Context) (j : Nat) (x : Sample) : Context :=
  if j ≤ 1023 then { acceptSample c j x with expected := j + 1 }
  else { c with marks := { c.marks with truncated := true }, expected := j + 1 }

/-- A sample of index `j` against the next expected index (R10). -/
def takeSample (c : Context) (j : Nat) (x : Sample) : Context :=
  if j < c.expected then c
  else if c.expected < j then
    takeExpected { c with marks := { c.marks with gapped := true }, expected := j } j x
  else takeExpected c j x

/-- The samples of a taken block, the first of index `j` (R9, R10). -/
def takeBlock : Context → Nat → List Sample → Context
  | c, _, [] => c
  | c, j, x :: xs => takeBlock (takeSample c j x) (j + 1) xs

/-! ## Judgement (R14 to R18) -/

/-- The group used (R14): absent when the lookup resolved UNMAPPED or STORE_FAULT. -/
def groupUsed (ph : Phase) : Resolution → Option (Fin 64)
  | .entry e =>
    if e.valid then
      match ph with
      | .ball => some e.ball
      | .stitch => some e.stitch
    else none
  | .unmapped => none
  | .storeFault => none

/-- The window that judgement uses: that of the phase, when the group used is valid (R14, R18). -/
def windowUsed (groups : Vector BondGroup 64) (ph : Phase) : Option (Fin 64) → Option PhaseWindow
  | none => none
  | some g =>
    if (groups.get g).valid then
      match ph with
      | .ball => some (groups.get g).ball
      | .stitch => some (groups.get g).stitch
    else none

/-- The bond energy before clamping, floor(A / 4,000) (R15). -/
def rawEnergy (c : Context) : Nat := c.power / 4000

/-- The bond energy Eb (R15). -/
def bondEnergy (c : Context) : Nat := clampTo 65535 (rawEnergy c)

/-- The capillary rose during the bond (R16). -/
def rebounds (c : Context) : Bool :=
  match c.z0, c.lastHeight with
  | some z, some x => z < x
  | _, _ => false

/-- The deformation d (R16). -/
def deformation (c : Context) : Nat :=
  match c.z0, c.lastHeight with
  | some z, some x => z - x
  | _, _ => 0

/-- The sum L8 of the last-eight window (R17). -/
def lastEightSum (c : Context) : Nat := c.lastEight.sum

/-- The stick index before clamping (R17), for F8 above 0. -/
def rawStick (c : Context) : Nat := lastEightSum c * 256 / c.firstEight

/-- The stick index S (R17). -/
def stickIndex (c : Context) : Nat := if c.firstEight = 0 then 1023 else clampTo 1023 (rawStick c)

/-- The distance between the stick index and 256 (R18). -/
def stickDistance (s : Nat) : Nat := if s ≤ 256 then 256 - s else s - 256

/-- The marks that judgement adds (R14 to R17). -/
def judgedMarks (c : Context) (r : Resolution) : Marks :=
  { c.marks with
    store := c.marks.store || r == .storeFault
    clamped := c.marks.clamped || 65535 < rawEnergy c || (c.firstEight != 0 && 1023 < rawStick c)
    rebound := c.marks.rebound || rebounds c
    noDrive := c.marks.noDrive || c.firstEight == 0 }

/-- A check of R18 fails. Check 2 needs a group, and checks 4 and 6 to 10 need a window. -/
def checkFails (c : Context) (group : Option (Fin 64)) (w : Option PhaseWindow) : Verdict → Bool
  | .unmapped => group.isNone
  | .noProgram => group.isSome && w.isNone
  | .incomplete => c.marks.gapped
  | .short => w.any fun w => c.accepted < w.minSamples
  | .noContact => c.z0.isNone
  | .nonStick => w.any fun w => stickDistance (stickIndex c) ≤ w.stickBand
  | .lowEnergy => w.any fun w => bondEnergy c < w.energyMin
  | .highEnergy => w.any fun w => w.energyMax < bondEnergy c
  | .lowDeform => w.any fun w => deformation c < w.deformMin
  | .highDeform => w.any fun w => w.deformMax < deformation c
  | .pass => false

/-- The judgement of a context whose lookup resolved to `r` (R14 to R18, R22). -/
def judgement (groups : Vector BondGroup 64) (c : Context) (r : Resolution) : Judgement :=
  let group := groupUsed c.phase r
  let w := windowUsed groups c.phase group
  let faults := allChecks.filter (checkFails c group w)
  { group := group
    energy := bondEnergy c
    deform := deformation c
    stick := stickIndex c
    verdict := faults.head?.getD .pass
    faults := faults
    action :=
      match w with
      | none => .holdReject
      | some w => w.action }

/-- The context JUDGED, if it is CLOSED and its lookup is RESOLVED (R14). -/
def judgeContext (groups : Vector BondGroup 64) (c : Context) : Context :=
  match c.state, c.lookup with
  | .closed, .resolved r =>
    { c with state := .judged (judgement groups c r), marks := judgedMarks c r }
  | _, _ => c

/-! ## Issue (R19 to R25) -/

/-- The unit mark of a verdict (R22, R23). -/
def unitMarkOf (j : Judgement) : UnitMark :=
  if j.verdict = .pass then .none
  else
    match j.action with
    | .log | .hold => .suspect
    | .holdReject => .reject

/-- The alarm kind of a failing verdict (R22). -/
def alarmKindOf : Verdict → AlarmKind
  | .unmapped => .unmapped
  | .noProgram => .noProgram
  | .incomplete | .short | .noContact | .nonStick | .lowEnergy | .highEnergy | .lowDeform
  | .highDeform | .pass => .bondFault

/-- The subject of a bond's alarm: unit reference and wire, or the wire alone (R22). -/
def bondSubject (u : Option UnitRef) (wire : Nat) : Subject :=
  match u with
  | some u => unitSubject u wire
  | none => ⟨none, none, some wire⟩

/-- The fail action of a verdict: its alarm, and with the alarm its hold reason (R22). -/
def failAction (p : Part) (c : Context) (j : Judgement) : Part :=
  if j.verdict = .pass ∨ j.action = .log then p
  else raiseAlarm p (alarmKindOf j.verdict) (.head c.head) (some (bondSubject c.unitRef c.wire))

/-- The free write slot of a channel, if there is one (R21). -/
def freeSlot (ch : Channel) : Option Side :=
  if ch.slots.zero.isNone then some .zero else if ch.slots.one.isNone then some .one else none

/-- The oldest context on the bond order list, when it is JUDGED. -/
def oldestJudged (ch : Channel) : Option (Fin 4 × Context × Judgement) :=
  match ch.order with
  | [] => none
  | i :: _ =>
    match ch.contexts.get i with
    | none => none
    | some c =>
      match c.state with
      | .judged j => some (i, c, j)
      | .opened | .closed => none

/-- Last-issue values and counters at an issue (R20 step 7). -/
def recordIssue (p : Part) (h : Side) (j : Judgement) : Part :=
  tracked (fun p => modChannel p h fun ch =>
    { ch with
      last := some ⟨j.verdict, j.energy, j.deform⟩
      counters := { ch.counters with
        issued := inc ch.counters.issued
        failed := if j.verdict = .pass then ch.counters.failed else inc ch.counters.failed } }) p

/-- A context becomes FREE and leaves the bond order list (R20 step 8). -/
def freeContext (p : Part) (h : Side) (i : Fin 4) : Part :=
  modChannel p h fun ch =>
    { ch with contexts := vset ch.contexts i none, order := ch.order.filter fun x => x != i }

/-- The issue of a verdict, its eight effects in order (R20). `slot` is the free write slot used when the
store is in service. -/
def issueVerdict (p : Part) (h : Side) (i : Fin 4) (c : Context) (j : Judgement)
    (slot : Option Side) : Part :=
  let k := slot.map fun _ => p.store.wb
  let p :=
    match slot with
    | some x => writeBondRecord p c j x
    | none => p
  let p := offerVerdict p c j k
  let p := failAction p c j
  let p := releaseUnit p h c.unitRef (unitMarkOf j) (some (j.verdict == .pass))
  let p := setSelectionNumber p c k
  let p := prefetch p c
  let p := recordIssue p h j
  freeContext p h i

/-- One issue on the channel of head `h`, if the three conditions of R19 hold. -/
def issueOne (p : Part) (h : Side) : Option Part :=
  let ch := p.bm.channels.get h
  if !ch.on then none
  else
    match oldestJudged ch with
    | none => none
    | some (i, c, j) =>
      if inService p then
        match freeSlot ch with
        | none => none
        | some x => some (issueVerdict p h i c j (some x))
      else some (issueVerdict p h i c j none)

/-- At most `k` issues on a channel, one after another (R19). -/
def issueUpTo : Nat → Part → Side → Part
  | 0, p, _ => p
  | k + 1, p, h =>
    match issueOne p h with
    | none => p
    | some p' => issueUpTo k p' h

/-- The channel examines issue (R19): four contexts at most can be issued. -/
def examineIssue (p : Part) (h : Side) : Part := issueUpTo 4 p h

/-- Both channels examine issue, on a change of the store's state (R19), channel 0 first: the model's choice (log
entry 10). -/
def examineBoth (p : Part) : Part := examineIssue (examineIssue p .zero) .one

/-- A context is judged if it is CLOSED with its lookup RESOLVED, and the channel examines issue (R14,
R19). -/
def judgeAndIssue (p : Part) (h : Side) (i : Fin 4) : Part :=
  examineIssue (modContext p h i (judgeContext p.bm.groups)) h

/-! ## Results of lookups (R40, R41) -/

/-- The outcome of an examination reaches the party that handed the lookup in (R40). -/
def deliverLookup (p : Part) (w : Waiter) (x : LookupState) : Part :=
  match w.party with
  | .ctx h i => judgeAndIssue (modContext p h i fun c => { c with lookup := x }) h i
  | .pull =>
    match x with
    | .resolved r => pumpPulls (settleClass p w.start r)
    | .pending => p
    | .waitingForFetchPlace => p

/-! ## Opening, samples and closing (R6 to R13) -/

/-- The context is OPEN. -/
def isOpen (c : Context) : Bool := c.state == .opened

/-- Context `i` of a channel satisfies `q`. -/
def contextIs (ch : Channel) (q : Context → Bool) (i : Fin 4) : Bool :=
  match ch.contexts.get i with
  | some c => q c
  | none => false

/-- The channel's OPEN context (R5: at most one). -/
def openContext (ch : Channel) : Option (Fin 4) := ch.order.find? (contextIs ch isOpen)

/-- The OPEN context whose sequence is `n`, which takes the parcels of that sequence (R9, R12). -/
def openContextOf (ch : Channel) (n : BitVec 16) : Option (Fin 4) :=
  ch.order.find? (contextIs ch fun c => isOpen c && c.sequence == n)

/-- A BOND_OPEN closes the OPEN context, if there is one (R7). -/
def closeByOpen (p : Part) (h : Side) : Part :=
  match openContext (p.bm.channels.get h) with
  | none => p
  | some i =>
    judgeAndIssue (modContext p h i fun c =>
      { c with
        marks := { c.marks with gapped := true }
        closedByOpen := true
        state := .closed }) h i

/-- The fields of a BOND_OPEN (Section 10.4): wire in 10 bits, phase in 1 (R183). -/
structure OpenFields where
  sequence : BitVec 16
  wire : Nat
  phase : Phase
  deriving DecidableEq, Repr

/-- Read a BOND_OPEN. -/
def openFields (pl : List Byte) : OpenFields :=
  { sequence := BitVec.ofNat 16 (word16At pl 1)
    wire := word16At pl 3 % 1024
    phase := if byteAt pl 5 % 2 = 0 then .ball else .stitch }

/-- A context as a BOND_OPEN takes it (R6). -/
def freshContext (h : Side) (f : OpenFields) (cfg : LaneConfig) (u : Option UnitRef) : Context :=
  { head := h, sequence := f.sequence, phase := f.phase, wire := f.wire, unitRef := u
    bank := cfg.bank, touchdown := cfg.touchdown, accepted := 0, expected := 0, power := 0
    firstEight := 0, lastEight := [], z0 := none, lastHeight := none
    marks := { noUnit := u.isNone }, closedByOpen := false, lookup := .pending, state := .opened }

/-- A BOND_OPEN takes the FREE context `i` (R6), and its lookup is handed to the map cache. -/
def takeContext (p : Part) (h : Side) (i : Fin 4) (f : OpenFields) : Part :=
  let cfg := (p.st.lanes.get h).config
  let u := activeUnit p h
  let p := modActive p h fun x => { x with refs := x.refs + 1 }
  let p := modChannel p h fun ch =>
    { ch with
      contexts := vset ch.contexts i (some (freshContext h f cfg u))
      order := ch.order ++ [i] }
  let out := startLookup p ⟨cfg.bank, f.wire⟩ (.ctx h i)
  modContext out.1 h i fun c => { c with lookup := out.2 }

/-- A BOND_OPEN finds no FREE context (R8). -/
def overrun (p : Part) (h : Side) (wire : Nat) : Part :=
  let p := countChannel p h fun c => { c with unmonitored := inc c.unmonitored }
  let p := raiseAlarm p .monitorOverrun (.head h) ((activeUnit p h).map fun u => unitSubject u wire)
  suspectActive p h

/-- A telemetry parcel whose head field is not the channel's (R2). -/
def malformedTelemetry (p : Part) (h : Side) : Part :=
  countChannel p h fun c => { c with malformed := inc c.malformed }

/-- A snooped BOND_OPEN at the channel of head `h` (R2, R6 to R8, R27). -/
def bondOpen (p : Part) (h : Side) (pl : List Byte) : Part :=
  if side? (byteAt pl 0) ≠ some h then malformedTelemetry p h
  else if !(p.bm.channels.get h).on then
    suspectActive (countChannel p h fun c => { c with unmonitored := inc c.unmonitored }) h
  else
    let f := openFields pl
    let p := closeByOpen p h
    match vfind Option.isNone (p.bm.channels.get h).contexts with
    | some i => takeContext p h i f
    | none => overrun p h f.wire

/-- A snooped SAMPLES at the channel of head `h` (R2, R9, R27). -/
def bondSamples (p : Part) (h : Side) (pl : List Byte) : Part :=
  if side? (byteAt pl 0) ≠ some h then malformedTelemetry p h
  else if !(p.bm.channels.get h).on then p
  else if byteAt pl 5 = 0 ∨ 8 < byteAt pl 5 then malformedTelemetry p h
  else
    match openContextOf (p.bm.channels.get h) (BitVec.ofNat 16 (word16At pl 1)) with
    | none => countChannel p h fun c => { c with lateSamples := inc c.lateSamples }
    | some i =>
      modContext p h i fun c => takeBlock c (word16At pl 3) (samplesOf pl (byteAt pl 5))

/-- A context that a stray close may mark LATE_CLOSE (R13): closed by open, with the parcel's sequence. -/
def lateCloses (n : BitVec 16) (c : Context) : Bool :=
  !isOpen c && c.closedByOpen && c.sequence == n

/-- A stray close (R13): the youngest context that it fits is marked. -/
def strayClose (p : Part) (h : Side) (n : BitVec 16) : Part :=
  let ch := p.bm.channels.get h
  let p := countChannel p h fun c => { c with strayCloses := inc c.strayCloses }
  match ch.order.reverse.find? (contextIs ch (lateCloses n)) with
  | none => p
  | some i => modContext p h i fun c => { c with marks := { c.marks with lateClose := true } }

/-- The context closed by a BOND_CLOSE of `total` samples sent (R12). -/
def closeContext (total : Nat) (c : Context) : Context :=
  { c with
    state := .closed
    marks := if total = c.expected then c.marks else { c.marks with gapped := true } }

/-- A snooped BOND_CLOSE at the channel of head `h` (R2, R12, R13, R27). -/
def bondClose (p : Part) (h : Side) (pl : List Byte) : Part :=
  if side? (byteAt pl 0) ≠ some h then malformedTelemetry p h
  else if !(p.bm.channels.get h).on then p
  else
    let n := BitVec.ofNat 16 (word16At pl 1)
    match openContextOf (p.bm.channels.get h) n with
    | none => strayClose p h n
    | some i => judgeAndIssue (modContext p h i (closeContext (word16At pl 3))) h i

/-! ## Channel off and restart (R3, R26, R27) -/

/-- The unit reference of the context at a place of the bond order list. -/
def refOf (ch : Channel) (i : Fin 4) : Option UnitRef := (ch.contexts.get i).bind fun c => c.unitRef

/-- Every context becomes FREE and the bond order list is emptied. -/
def clearContexts (ch : Channel) : Channel :=
  { ch with contexts := Vector.replicate 4 none, order := [] }

/-- HEAD_CHANNEL off, taken while the channel is on (R26). The spec gives no order in which the discarded
contexts release their units; that they do so in bond order, oldest first, is the model's choice (DESIGN CHOICE,
log entry 36). -/
def channelOff (p : Part) (h : Side) : Part :=
  let ch := p.bm.channels.get h
  let p := withdrawLookups p (ofChannel h)
  let p := modChannel p h fun ch => { clearContexts ch with on := false }
  ch.order.foldl (fun p i => releaseUnit p h (refOf ch i) .suspect none) p

/-- HEAD_CHANNEL (R26, R27); a setting that is already the one asked changes nothing. -/
def setChannel (p : Part) (h : Side) (on : Bool) : Part :=
  if (p.bm.channels.get h).on = on then p
  else if on then modChannel p h fun ch => { clearContexts ch with on := true }
  else channelOff p h

/-- The work restart of the channels (R3): contexts discarded and their lookups withdrawn. -/
def restartChannels (p : Part) : Part :=
  let p := withdrawLookups p fun w => ofChannel .zero w || ofChannel .one w
  modChannel (modChannel p .zero clearContexts) .one clearContexts

end Sys2Proof.Machine
end

