-- ==== Sys2Proof/Machine/Fetch.lean ====
section
/-! DEFINITION. The completion of map fetches and the retry of the place-wait list (Section 2.5). -/

namespace Sys2Proof.Machine

/-- Every waiter resolves with `r`, in waiter order (R41). A context that this makes ready for issue is issued
before the next waiter resolves: the model's choice (log entry 33). -/
def resolveAll (p : Part) (ws : List Waiter) (r : Resolution) : Part :=
  ws.foldl (fun p w => deliverLookup p w (.resolved r)) p

/-- The class of the correlation slot's entry is RESOLVING by the lookup of start order `start`. -/
def slotResolving (s : CorrSlot) (start : Nat) : Bool :=
  match s with
  | .empty => false
  | .placeWait e _ => resolvingBy start e
  | .reading e _ _ _ => resolvingBy start e

/-- The party of a lookup still needs it (R46). A context that waits is not discarded within a completion. -/
def stillWanted (p : Part) (w : Waiter) : Bool :=
  match w.party with
  | .ctx _ _ => true
  | .pull => p.pru.pulls.any (resolvingBy w.start) || slotResolving p.pru.slot w.start

/-- A waiter of a stale fetch is handed back to the map cache, keeping its start order (R42). As a drain ends
the new fetch of the first waiter faults at once (R39, R56), and the next waiter finds the key not in flight:
log entry 30. -/
def rerunLookup (key : MapKey) (p : Part) (w : Waiter) : Part :=
  if stillWanted p w then
    let out := examineLookup p key w false
    deliverLookup out.1 w out.2
  else p

/-- A lookup leaves the place-wait list (R38). -/
def leaveWait (p : Part) (w : Waiter) : Part :=
  setMap p { p.map with placeWait := p.map.placeWait.filter fun x => x.waiter != w }

/-- A lookup is reached in the retry of the place-wait list (R43). It may have been withdrawn meanwhile. -/
def retryLookup (p : Part) (x : PlaceWait) : Part :=
  if p.map.placeWait.any fun y => y.waiter == x.waiter then
    let out := examineLookup p x.key x.waiter true
    match out.2 with
    | .waitingForFetchPlace => out.1
    | .pending => deliverLookup (leaveWait out.1 x.waiter) x.waiter .pending
    | .resolved r => deliverLookup (leaveWait out.1 x.waiter) x.waiter (.resolved r)
  else p

/-- The retry of the place-wait list, oldest lookup first (R43). -/
def retryWaits (p : Part) : Part := p.map.placeWait.foldl retryLookup p

/-- The result of a fetch that has left the fetch list is applied (R41, R42). `result` is absent at a
STORE_FAULT. -/
def applyFetch (p : Part) (f : Fetch) (result : Option MapEntry) : Part :=
  match result with
  | none =>
    resolveAll (countMap p fun c => { c with fetchFaults := inc c.fetchFaults }) f.waiters .storeFault
  | some e =>
    if f.stale then
      f.waiters.foldl (rerunLookup f.key)
        (countMap p fun c => { c with staleFetches := inc c.staleFetches })
    else if e.valid then resolveAll (insertEntry p f.key e) f.waiters (.entry e)
    else resolveAll p f.waiters .unmapped

/-- The MAP_FETCH request of a key completes (R41): its fetch leaves the list, its result is applied, and the
place-wait list is retried. A lookup that the Pull Record Unit starts while the result is applied, at an issue that
a waiter sets off (R19, R101), is examined at once, before the retry, and may take the fetch place that has become
free ahead of the older lookups of the place-wait list: the model's choice (DESIGN CHOICE, log entry 37). -/
def fetchComplete (p : Part) (key : MapKey) (result : Option MapEntry) : Part :=
  match p.map.fetches.find? fun f => f.key == key with
  | none => p
  | some f =>
    let p := setMap p { p.map with fetches := p.map.fetches.filter fun x => x.key != key }
    retryWaits (applyFetch p f result)

end Sys2Proof.Machine
end

