-- ==== Sys2Proof/Machine/Service.lean ====
section
/-! DEFINITION. The service of the store queue: completion and timeout of accesses, delivery of outcomes,
store off, and the work restart of the queue (Sections 3.3 to 3.5, 3.8). -/

namespace Sys2Proof.Machine

/-! ## Delivery (R59) -/

/-- The reply of a RECORD_READ whose lookback has an outcome (R68; log entry 12 for the codes). -/
def replyLookback (p : Part) : Lookback → Part
  | .found bs => replyDone p (0 :: bs)
  | .notYet => replyDone p [1]
  | .lost => replyDone p [2]
  | .fault => replyDone p [3]

/-- A channel's write slot is freed and the channel examines issue (R21). -/
def freeWriteSlot (p : Part) (h slot : Side) : Part :=
  examineIssue (modChannel p h fun ch => { ch with slots := ch.slots.set slot none }) h

/-- The completion of a request is delivered to its requester (R59). `got` holds the bytes read, and is
absent at a STORE_FAULT. A withdrawn request delivers nothing (R69). -/
def deliverRequest (p : Part) (r : Request) (got : Option (List Byte)) : Part :=
  if r.withdrawn then p
  else
    match r.kind with
    | .mapFetch key => fetchComplete p key (got.map entryOf)
    | .bondWrite h slot => freeWriteSlot p h slot
    | .bondRead ph k =>
      match got with
      | none => resolvePart p ph .fault
      | some bs =>
        let out := judgeLookback p k bs
        resolvePart out.1 ph out.2
    | .pullWrite => p
    | .mapWrite =>
      match got with
      | none => replyRefused p .store
      | some _ => replyDone p []
    | .mapRead =>
      match got with
      | none => replyRefused p .store
      | some bs => replyDone p (storedEntry bs)
    | .recordRead _ k =>
      match got with
      | none => replyLookback p .fault
      | some bs =>
        let out := judgeLookback p k bs
        replyLookback out.1 out.2

/-- The delivery, after which the Pull Record Unit goes on with what a freed place lets it hand in (R108,
R110; log entry 19). -/
def finishRequest (p : Part) (r : Request) (got : Option (List Byte)) : Part :=
  pumpPulls (deliverRequest p r got)

/-- A request completes with STORE_FAULT other than by a timeout (R56, R70). A withdrawn one delivers
nothing and is not counted (log entry 20). -/
def faultRequest (p : Part) (r : Request) : Part :=
  finishRequest (if r.withdrawn then p else countFaulted p) r none

/-! ## The end of a request (R55, R58) -/

/-- The head request leaves the queue. -/
def leaveQueue (p : Part) (rest : List Request) : Part :=
  setStore p { p.store with queue := rest, done := 0, got := [] }

/-- The store becomes READY with an empty queue, on which both channels examine issue (R19, R58). -/
def becomeReady (p : Part) : Part := examineBoth (setStore p { p.store with state := .ready })

/-- The store becomes OFF and a STORE notice is queued (R54, R55). -/
def becomeOff (p : Part) : Part := offerStore (setStore p { p.store with state := .off })

/-- STORE_DISABLE completes as the store becomes OFF, and both channels examine issue (R19, R54, R55). -/
def finishDisable (p : Part) : Part := examineBoth (replyDone (becomeOff p) [])

/-- What follows the delivery of the head request's completion: the next request, READY, or the end of a
drain, which completes STORE_DISABLE (R55, R58). -/
def goOn (p : Part) : Part :=
  if p.store.state = .draining then finishDisable p
  else if p.store.queue.isEmpty then becomeReady p
  else p

/-- An access is in progress: the head request, and the requests behind it (R49). -/
def inProgress (p : Part) : Option (Request × List Request) :=
  if p.store.state = .busy ∨ p.store.state = .draining then
    match p.store.queue with
    | [] => none
    | r :: rest => some (r, rest)
  else none

/-- The access in progress completes (R49, R55, R58, R69); `bytes` are those that a read delivers. With no
access in progress nothing happens (R49). -/
def completeAccess (p : Part) (bytes : List Byte) : Part :=
  match inProgress p with
  | none => p
  | some (r, rest) =>
    let done := p.store.done + 1
    let got := p.store.got ++ bytes
    if accessCount p.store.config r ≤ done then
      goOn (finishRequest (leaveQueue p rest) r (some got))
    else if r.withdrawn || p.store.state == .draining then
      goOn (faultRequest (leaveQueue p rest) r)
    else setStore p { p.store with done := done, got := got }

/-- The first-fault record captures a fault if it is empty (R61). -/
def captureFault (p : Part) (addr cls : Nat) : Part :=
  match p.store.firstFault with
  | none => setStore p { p.store with firstFault := some ⟨addr, cls, p.time⟩ }
  | some _ => p

/-- The store timeout of the access in progress expires (R60). The alarm is raised before the completion is
delivered, as the alarm numbers of Section 6.7 show (log entry 29). -/
def timeoutAccess (p : Part) : Part :=
  match inProgress p with
  | none => p
  | some (r, rest) =>
    let addr := accessAddress p.store.config r p.store.done
    let p := countStore (leaveQueue p rest) fun c => { c with timeouts := inc c.timeouts }
    let p := captureFault p addr (classCode r.kind)
    let p := raiseAlarm p .storeFault .store none
    goOn (finishRequest p r none)

/-! ## Store on, off and restart (R53, R54, R69) -/

/-- STORE_ENABLE takes the store from OFF to READY (R53): the reply, the STORE notice, and then both channels
examine issue. -/
def storeOn (p : Part) : Part :=
  examineBoth <| offerStore <|
    replyDone (setStore p { p.store with state := .ready, done := 0, got := [] }) []

/-- The oldest request behind the head leaves the queue of a store that begins to drain (R54). -/
def leaveBehindHead (p : Part) : Part := setStore p { p.store with queue := p.store.queue.eraseIdx 1 }

/-- One request behind the head completes as a drain begins (R54): it alone leaves the queue, and STORE_FAULT is
delivered. The requests behind it are still queued, so that a place of the Pull Record Unit is free only once its
own request has completed (R59, R108). -/
def drainRequest (p : Part) (r : Request) : Part := faultRequest (leaveBehindHead p) r

/-- STORE_DISABLE of a BUSY store (R54): it becomes DRAINING, the write list is sent out, on which the Pull Record
Unit goes on (R108, R111), and every request but the oldest completes with STORE_FAULT, one after another in queue
order (log entry 13). -/
def beginDrain (p : Part) : Part :=
  let faulted := p.store.queue.drop 1
  let p := setStore p { p.store with state := .draining }
  examineBoth (faulted.foldl drainRequest (pumpPulls (flushWrites p)))

/-- STORE_DISABLE (R54). -/
def storeOff (p : Part) : Part :=
  let p := setStore p { p.store with firstFault := none }
  match p.store.state with
  | .off => replyDone p []
  | .ready => finishDisable (flushWrites p)
  | .busy => beginDrain p
  | .draining => p

/-- The request is a lookback of the Pull Record Unit (R69). -/
def isBondRead (r : Request) : Bool :=
  match r.kind with
  | .bondRead _ _ => true
  | .mapFetch _ | .bondWrite _ _ | .pullWrite | .mapWrite | .mapRead | .recordRead _ _ => false

/-- The queue after a work restart (R69): the lookbacks of the Pull Record Unit are withdrawn. -/
def restartRequests : List Request → List Request
  | [] => []
  | r :: rest =>
    (if isBondRead r then { r with withdrawn := true } else r) :: rest.filter fun x => !isBondRead x

/-- The work restart of the store queue (R69). -/
def restartQueue (p : Part) : Part :=
  setStore p { p.store with queue := restartRequests p.store.queue }

end Sys2Proof.Machine
end

