-- ==== Sys2Proof/Machine/PanelLine.lean ====
section
/-! DEFINITION. The Panel Controller: rendering of lines, the messages and turns of the poll walk, replies
and keys, and the work restart of the panels (Chapter 7). -/

namespace Sys2Proof.Machine

/-! ## Rendering (R149, R150) -/

/-- The characters of a screen line. -/
def lineLength : Nat := 24

/-- A digit character. -/
def digit (n : Nat) : Byte := oneByte (0x30 + n % 10)

/-- A number in decimal without leading zeros, of at most `k` digits. -/
def decimal : Nat → Nat → List Byte
  | 0, _ => []
  | k + 1, n => (if n < 10 then [] else decimal k (n / 10)) ++ [digit n]

/-- A number in decimal: every live item has fewer than 20 digits. -/
def decText (n : Nat) : List Byte := decimal 20 n

/-- A number with a decimal point before its last digit (R149, DEC1). -/
def dec1Text (n : Nat) : List Byte := decText (n / 10) ++ chars ['.'] ++ [digit n]

/-- A text right-aligned in a width. -/
def padLeft (w : Nat) (t : List Byte) : List Byte := List.replicate (w - t.length) 0x20 ++ t

/-- A text left-aligned in a width. -/
def padRight (w : Nat) (t : List Byte) : List Byte := t ++ List.replicate (w - t.length) 0x20

/-- A field's text: asterisks when it is longer than the width. -/
def fitField (w : Nat) (t : List Byte) (aligned : List Byte) : List Byte :=
  if w < t.length then List.replicate w 0x2A else aligned

/-- The text of a field of a width and format (R149). A format that does not fit the kind of the item does
not occur (R147); it is then rendered by the item's kind. -/
def fieldText (w : Nat) (f : FieldFormat) : LiveValue → List Byte
  | .absent => List.replicate w 0x2D
  | .num n =>
    let t := match f with
      | .dec1 => dec1Text n
      | .dec | .text => decText n
    fitField w t (padLeft w t)
  | .text t => fitField w t (padRight w t)

/-- Write a field over a line from its column on. -/
def overwrite (line : List Byte) (col : Nat) (t : List Byte) : List Byte :=
  line.take col ++ t ++ line.drop (col + t.length)

/-- A template line rendered for a panel of head `own` (R149). -/
def renderTemplate (p : Part) (own : Option Side) (t : Template) : List Byte :=
  t.slots.foldl (fun line s => overwrite line s.column (fieldText s.width s.format (slotValue p own s)))
    t.text

/-- The text of an alarm kind (R150). -/
def alarmKindText : AlarmKind → List Byte
  | .bondFault => chars ['B', 'O', 'N', 'D', 'F', 'L', 'T']
  | .unmapped => chars ['U', 'N', 'M', 'A', 'P', 'P', 'E', 'D']
  | .noProgram => chars ['N', 'O', 'P', 'R', 'O', 'G']
  | .monitorOverrun => chars ['O', 'V', 'E', 'R', 'R', 'U', 'N']
  | .pullAlarm => chars ['P', 'U', 'L', 'L', 'A', 'L', 'R', 'M']
  | .pullExpired => chars ['P', 'U', 'L', 'L', 'E', 'X', 'P']
  | .outputFull => chars ['O', 'U', 'T', 'F', 'U', 'L', 'L']
  | .inputEmpty => chars ['I', 'N', 'E', 'M', 'P', 'T', 'Y']
  | .stripStarved => chars ['S', 'T', 'A', 'R', 'V', 'E', 'D']
  | .storeFault => chars ['S', 'T', 'O', 'R', 'E', 'F', 'L', 'T']
  | .ringLost => chars ['R', 'I', 'N', 'G', 'L', 'O', 'S', 'T']
  | .panelAbsent => chars ['P', 'A', 'N', 'E', 'L', 'A', 'B', 'S']

/-- The text of an alarm source (R150). -/
def alarmSourceText : AlarmSource → List Byte
  | .head h => chars ['H'] ++ [digit h.toNat]
  | .lane l => chars ['L'] ++ [digit l.toNat]
  | .input => chars ['I', 'N']
  | .feeder => chars ['F', 'E', 'E', 'D']
  | .store => chars ['S', 'T', 'O', 'R']
  | .ring => chars ['R', 'I', 'N', 'G']
  | .panel i => chars ['P'] ++ [digit (i.val + 1)]

/-- A line of the alarms page that shows an entry (R150). -/
def alarmText (first : Bool) (a : Alarm) : List Byte :=
  chars [if first then '>' else ' '] ++ padLeft 5 (decText a.number.toNat) ++ chars [' ']
  ++ padRight 8 (alarmKindText a.kind) ++ chars [' '] ++ padRight 4 (alarmSourceText a.source)
  ++ chars [' '] ++ padLeft 3 (decText a.count)

/-- The entries of the list from the one numbered `n` on. -/
def alarmsFrom (n : BitVec 16) (as : List Alarm) : List Alarm := as.dropWhile fun a => a.number != n

/-- Line `l` of 1 to 7 of the alarms page, for a selection (R150). -/
def renderAlarm (as : List Alarm) (selection : Option (BitVec 16)) (l : Nat) : List Byte :=
  match selection with
  | none => List.replicate lineLength 0x20
  | some n =>
    match (alarmsFrom n as)[l - 1]? with
    | none => List.replicate lineLength 0x20
    | some a => alarmText (l == 1) a

/-- Line `l` of the page that a panel shows (R145, R149, R150). -/
def renderLine (p : Part) (x : Panel) (l : Fin 8) : List Byte :=
  if x.page = 1 ∧ l ≠ 0 then renderAlarm p.ahu.alarms x.selection l.val
  else renderTemplate p x.head (templateOf p x.page l)

/-! ## Messages and turns (R138, R145) -/

/-- Replace the state of the walk. -/
def setWalk (p : Part) (w : WalkState) : Part := setPnc p { p.pnc with walk := w }

/-- The message of a turn after those sent so far (R145): `lines` LINE messages, and the BEEP if `beeped`. -/
def chooseMessage (x : Panel) (lines : Nat) (beeped : Bool) : Message :=
  if beeped then .poll
  else if lines < 2 ∧ x.dirty ≠ [] then .line
  else if x.beep then .beep
  else .poll

/-- An address character (R137, Section 10.6). -/
def addressChar (x : Panel) : LineChar := ⟨oneByte x.address, true⟩

/-- Data characters of a message. -/
def dataChars (bs : List Byte) : List LineChar := bs.map fun b => ⟨b, false⟩

/-- The characters of a message after its address character (Section 7.2, Section 10.6). -/
def messageData (p : Part) (x : Panel) : Message → List Byte
  | .line =>
    match x.dirty with
    | [] => []
    | l :: _ => 0x01 :: oneByte l.val :: renderLine p x l
  | .beep => [0x02]
  | .poll => [0x03]

/-- What the start of a message takes from the panel (R145): its lowest dirty line, or its pending BEEP. -/
def takeMessage (m : Message) (x : Panel) : Panel :=
  match m with
  | .line => { x with dirty := x.dirty.drop 1 }
  | .beep => { x with beep := false }
  | .poll => x

/-- How many LINE messages the turn has sent or is sending, once a message `m` begins. -/
def linesAfter (m : Message) (lines : Nat) : Nat :=
  match m with
  | .line => lines + 1
  | .beep | .poll => lines

/-- The transmission of a message of a turn of panel `i` starts (R138, R145): its first character goes
through the transmit buffer to the shift register, where it begins at the settings of the moment (R143), and
the second waits in the buffer. -/
def startMessage (p : Part) (i : Fin 4) (lines : Nat) (m : Message) : Part :=
  let x := p.pnc.panels.get i
  let cs := dataChars (messageData p x m)
  let p := modPanel p i (takeMessage m)
  setPnc p { p.pnc with
    walk := .sending ⟨i, linesAfter m lines, m, false⟩
    shift := some (addressChar x)
    shiftSettings := p.pnc.settings
    buffer := cs.head?
    rest := cs.drop 1 }

/-- The next message of a turn starts. -/
def nextMessage (p : Part) (i : Fin 4) (lines : Nat) (beeped : Bool) : Part :=
  startMessage p i lines (chooseMessage (p.pnc.panels.get i) lines beeped)

/-- What goes out on the transmit pair (R137, R138, R143): the character in the shift register at the settings
under which it began, and every later one at the settings now held. -/
def transmitBits (c : PanelController) : List (List Bool) :=
  c.shift.toList.map (lineBits c.shiftSettings)
  ++ (c.buffer.toList ++ c.rest).map (lineBits c.settings)

/-- The transmitter is empty (R138). -/
def emptyTransmitter (p : Part) : Part :=
  setPnc p { p.pnc with shift := none, buffer := none, rest := [] }

/-! ## The poll walk (R144) -/

/-- An entry of the poll table is servable: it names a panel whose enabled mark is set. -/
def servable (c : PanelController) (e : Option (Fin 4)) : Bool :=
  match e with
  | none => false
  | some i => (c.panels.get i).enabled

/-- Some entry of the table is servable. -/
def anyServable (c : PanelController) : Bool := c.poll.toList.any (servable c)

/-- The panel that gets a turn at the walk's position, if its entry is not skipped. -/
def turnAt (c : PanelController) : Option (Fin 4) :=
  match c.poll.get c.position with
  | none => none
  | some i =>
    let x := c.panels.get i
    if x.enabled && (x.present || c.pass.toNat % 8 == 0) then some i else none

/-- The position advances by one, and from 15 to 0 the pass number advances. The second component says that
the pass just ended made no turn, so that the controller rests. -/
def advance (c : PanelController) : PanelController × Bool :=
  if c.position = 15 then
    ({ c with position := 0, pass := c.pass + 1, madeTurn := false }, !c.madeTurn)
  else ({ c with position := c.position + 1 }, false)

/-- The walk examines entries from its position on. A pass has 16 entries and a pass without turns ends in a
rest, so that 33 examinations are enough. -/
def walkFrom : Nat → Part → Part
  | 0, p => p
  | k + 1, p =>
    if !anyServable p.pnc then setWalk p .stopped
    else
      match turnAt p.pnc with
      | some i => nextMessage (setPnc p { p.pnc with madeTurn := true }) i 0 false
      | none =>
        let out := advance p.pnc
        if out.2 then setWalk (setPnc p out.1) .resting else walkFrom k (setPnc p out.1)

/-- The walk goes on from its position. -/
def walkOn (p : Part) : Part := walkFrom 33 p

/-- The turn ends (R144): the position advances, or goes to entry 0 after a POLL_WRITE, and the walk goes
on. -/
def endTurn (p : Part) : Part :=
  let p := emptyTransmitter p
  if p.pnc.rewind then walkOn (setPnc p { p.pnc with position := 0, rewind := false })
  else
    let out := advance p.pnc
    if out.2 then setWalk (setPnc p out.1) .resting else walkOn (setPnc p out.1)

/-- A reply window opens (R141). -/
def openWindow (p : Part) (i : Fin 4) : Part :=
  setWalk (emptyTransmitter p)
    (.listening ⟨i, [], p.pnc.settings.timeout, p.pnc.settings, false⟩)

/-- The last character of the message being sent leaves the shift register (R138, R141, R142, R145). With no
message being sent nothing happens. -/
def messageSent (p : Part) : Part :=
  match p.pnc.walk with
  | .sending t =>
    if t.cut then endTurn p
    else
      match t.message with
      | .line => nextMessage p t.panel t.lines false
      | .beep => nextMessage p t.panel t.lines true
      | .poll => openWindow p t.panel
  | .stopped | .listening _ | .resting => p

/-- The rest after a pass without turns ends (R144). -/
def restEnds (p : Part) : Part :=
  match p.pnc.walk with
  | .resting => walkOn p
  | .stopped | .sending _ | .listening _ => p

/-! ## Receiving (R139, R141) -/

/-- The settings held before the last `n` PANEL_CONFIG of the line form; no character being received began
before the oldest settings kept (R143; log entry 26). -/
def settingsBefore (c : PanelController) (n : Nat) : LineSettings :=
  (c.settings :: c.prior).getD (min n c.prior.length) c.settings

/-- A character with its error marks, by the settings under which it began (R139, R143). -/
def markChar (c : PanelController) (x : RxChar) : RxMarked :=
  let s := settingsBefore c x.formsSince
  ⟨⟨x.data, x.addr⟩, framingError s x, parityError s x⟩

/-- The character in the receiver has ended, and the next one begins at the settings now held (R143). -/
def endReception (p : Part) : Part := setPnc p { p.pnc with prior := [] }

/-- A character is handed to the Panel Controller (R139). -/
def receiveChar (p : Part) (x : RxChar) : Part :=
  endReception <|
    match p.pnc.walk with
    | .listening w => setWalk p (.listening { w with chars := w.chars ++ [markChar p.pnc x] })
    | .stopped | .sending _ | .resting => setPnc p { p.pnc with strays := inc p.pnc.strays }

/-- A character without error marks and with the address flag clear. -/
def cleanChar (x : RxMarked) : Bool := !x.framing && !x.parity && !x.char.addr

/-- The judgements of a reply (R141). -/
inductive ReplyJudgement where
  | silent
  | valid (keys : List Byte)
  | discarded
  deriving DecidableEq, Repr

/-- The judgement of the characters collected (R141). -/
def judgeReply (cs : List RxMarked) : ReplyJudgement :=
  match cs with
  | [] => .silent
  | x :: xs =>
    if x.char.data.toNat ≤ 4 ∧ xs.length = x.char.data.toNat ∧ cs.all cleanChar then
      .valid (xs.map fun y => y.char.data)
    else .discarded

/-! ## Keys (R152 to R154) -/

/-- A panel's next turn sounds its buzzer. -/
def setBeep (p : Part) (i : Fin 4) : Part := modPanel p i fun x => { x with beep := true }

/-- A key cannot act (R152). -/
def refuseKey (p : Part) (i : Fin 4) : Part :=
  let p := setBeep p i
  setPnc p { p.pnc with keysRefused := inc p.pnc.keysRefused }

/-- UP or DOWN moves the selection of panel `i` as `move` says, from the entry it names (R153). -/
def moveSelection (p : Part) (i : Fin 4) (move : List Alarm → BitVec 16 → Option (BitVec 16)) : Part :=
  match (p.pnc.panels.get i).selection.bind (move p.ahu.alarms) with
  | none => refuseKey p i
  | some n => modPanel p i fun x => setSelection x (some n)

/-- ACK (R154): an acknowledgement that the Alarm and Hold Unit refuses sets the pending BEEP (R124). -/
def keyAck (p : Part) (i : Fin 4) : Part :=
  let x := p.pnc.panels.get i
  match x.selection with
  | none => refuseKey p i
  | some n =>
    if x.page ≠ 1 then refuseKey p i
    else
      match ackAlarm p n with
      | some p' => p'
      | none => setBeep (refuseAck p) i

/-- PURGE (R154). -/
def keyPurge (p : Part) (i : Fin 4) : Part :=
  match (p.pnc.panels.get i).head with
  | none => refuseKey p i
  | some h => if (p.ahu.heads.get h).operator then lanePurge p h else refuseKey p i

/-- HOLD or RESUME on the head of panel `i` (R154). -/
def keyHead (p : Part) (i : Fin 4) (f : Part → Side → Part) : Part :=
  match (p.pnc.panels.get i).head with
  | none => refuseKey p i
  | some h => f p h

/-- The effect of a key code (R152 to R154, Section 10.6). -/
def keyEffect (i : Fin 4) (key : Byte) (p : Part) : Part :=
  if key = 0x10 then modPanel p i fun x => markAllLines { x with page := x.page + 1 }
  else if key = 0x11 then moveSelection p i olderAlarm
  else if key = 0x12 then moveSelection p i newerAlarm
  else if key = 0x13 then keyAck p i
  else if key = 0x14 then keyHead p i holdHead
  else if key = 0x15 then keyHead p i resumeHead
  else if key = 0x16 then keyPurge p i
  else refuseKey p i

/-- The keys of a reply are acted on in order, each seeing the effects of those before it (R152). -/
def actKeys (i : Fin 4) (keys : List Byte) (p : Part) : Part :=
  keys.foldl (fun p k => keyEffect i k p) p

/-! ## The close of a reply window (R146) -/

/-- A valid reply of panel `i` (R146). -/
def panelAnswers (p : Part) (i : Fin 4) : Part :=
  let p := modPanel p i fun x =>
    if x.present then { x with misses := 0 }
    else markAllLines { x with misses := 0, present := true }
  removeAbsent p i

/-- The misses that make a panel ABSENT (R146). -/
def missLimit : Nat := 3

/-- A miss of panel `i` (R146). -/
def panelMisses (p : Part) (i : Fin 4) : Part :=
  let p := modPanel p i fun x => { x with missesCount := inc x.missesCount }
  let x := p.pnc.panels.get i
  if x.present then
    let m := x.misses + 1
    let p := modPanel p i fun x => { x with misses := m, present := decide (m < missLimit) }
    if m < missLimit then p else raiseAlarm p .panelAbsent (.panel i) none
  else p

/-- The reply of an open window is judged and acted on (R141, R146, R156). -/
def judgeWindow (w : ReplyWindow) (p : Part) : Part :=
  match judgeReply w.chars with
  | .silent => panelMisses p w.panel
  | .discarded =>
    panelMisses (modPanel p w.panel fun x => { x with errorsCount := inc x.errorsCount }) w.panel
  | .valid keys =>
    let p := panelAnswers p w.panel
    if w.dropKeys then p else actKeys w.panel keys p

/-- The reply timeout of the open window expires (R141, R146): the reply is acted on and the turn ends. With
no window open nothing happens. -/
def closeWindow (p : Part) : Part :=
  match p.pnc.walk with
  | .listening w => endTurn (judgeWindow w p)
  | .stopped | .sending _ | .resting => p

/-! ## Configuration (R142 to R144) and restart (R156) -/

/-- A panel as PANEL_CONFIG enables it or re-writes it (R142). -/
def freshPanel (x : Panel) (address : Nat) (head : Option Side) (as : List Alarm) : Panel :=
  { enabled := true, address := address, head := head, selection := oldestAlarm as
    errorsCount := x.errorsCount, missesCount := x.missesCount }

/-- The walk after the table or a panel changed outside a turn: STOPPED while no entry is servable (R144). -/
def reconsiderWalk (p : Part) : Part :=
  match p.pnc.walk with
  | .stopped => walkOn p
  | .resting => if anyServable p.pnc then p else setWalk p .stopped
  | .sending _ | .listening _ => p

/-- A turn of panel `i` in progress is cut by a PANEL_CONFIG (R142). -/
def cutTurn (p : Part) (i : Fin 4) : Part :=
  match p.pnc.walk with
  | .sending t => if t.panel = i then setWalk p (.sending { t with cut := true }) else p
  | .listening w => if w.panel = i then endTurn p else p
  | .stopped | .resting => reconsiderWalk p

/-- PANEL_CONFIG in its panel form (R142). -/
def configPanel (p : Part) (i : Fin 4) (on : Bool) (address : Nat) (head : Option Side) : Part :=
  let as := p.ahu.alarms
  let p := modPanel p i fun x =>
    if on then freshPanel x address head as else { x with enabled := false }
  cutTurn p i

/-- PANEL_CONFIG in its line form (R143). The character in the shift register keeps the settings under which
it began (`transmitBits`), one being received finishes at the settings under which it began, however often they
change meanwhile (`markChar`), and an open reply window keeps its length. -/
def configLine (p : Part) (s : LineSettings) : Part :=
  setPnc p { p.pnc with prior := p.pnc.settings :: p.pnc.prior, settings := s }

/-- POLL_WRITE (R144). -/
def writePoll (p : Part) (table : Vector (Option (Fin 4)) 16) : Part :=
  let p := setPnc p { p.pnc with poll := table }
  match p.pnc.walk with
  | .sending _ | .listening _ => setPnc p { p.pnc with rewind := true }
  | .stopped | .resting => reconsiderWalk (setPnc p { p.pnc with position := 0 })

/-- SCREEN_WRITE (R147). -/
def writeScreen (p : Part) (g : Fin 4) (l : Fin 8) (t : Template) : Part :=
  let p := setPnc p { p.pnc with
    templates := vset p.pnc.templates g (vset (p.pnc.templates.get g) l t) }
  modPanels p fun x => if x.enabled && x.page == g then markLines x fun k => k == l else x

/-- An open reply window whose keys are dropped (R156). -/
def dropWindowKeys : WalkState → WalkState
  | .listening w => .listening { w with dropKeys := true }
  | .stopped => .stopped
  | .sending t => .sending t
  | .resting => .resting

/-- The work restart of the Panel Controller (R156). -/
def restartPanels (p : Part) : Part :=
  let p := setWalk p (dropWindowKeys p.pnc.walk)
  modPanels p fun x =>
    if x.enabled then markAllLines { x with beep := false, selection := none } else x

end Sys2Proof.Machine
end

