-- ==== Sys2Proof/Machine/Commands.lean ====
section
/-! DEFINITION. The commands of the cell computer, one definition for each row of the table of R185: the
tests in the order of each command's rule, the effect, and the reply (Section 9.4). `a` holds the
arguments, byte for byte. -/

namespace Sys2Proof.Machine

/-! ## Ring Port (R162, R171) -/

/-- The role of a role byte and head byte (R162, R185). -/
def role? (x h : Nat) : Option Role :=
  match x with
  | 0 => some .vacant
  | 1 => (side? h).map .headBoard
  | 2 => some .indexer
  | 3 => some .pullTester
  | 4 => some .other
  | _ => none

/-- The table place of a station number 1 to 30 (R162). -/
def stationIndex? (n : Nat) : Option (Fin 30) := if n = 0 then none else index? 30 (n - 1)

/-- STATION_SET, station form (R162). -/
def cmdStationSet (p : Part) (a : List Byte) : Part :=
  match stationIndex? (byteAt a 0), role? (byteAt a 1) (byteAt a 2) with
  | some i, some r =>
    if byteAt a 0 = p.rp.station.toNat then replyRefused p .argument
    else replyDone (setRp p { p.rp with table := vset p.rp.table i r }) []
  | _, _ => replyRefused p .argument

/-- STATION_SET, ring form (R171). -/
def cmdStationRing (p : Part) (a : List Byte) : Part :=
  if byteAt a 0 = 0 then replyRefused p .argument
  else replyDone (setRp p { p.rp with timeout := byteAt a 0 }) []

/-- STATION_GET (R162). Each entry is a role byte and a head byte (log entry 12). -/
def cmdStationGet (p : Part) : Part :=
  replyDone p <|
    [ownStation p]
    ++ (p.rp.table.toList.map fun r => [oneByte (roleCode r), oneByte (roleHead r)]).flatten
    ++ [oneByte p.rp.timeout, if p.rp.up then 0 else 1] ++ le 2 p.rp.lastCycle.toNat

/-! ## Bond Program Table and wire map (R30 to R35, R45) -/

/-- The fail action of a byte (R185). -/
def action? : Nat → Option FailAction
  | 0 => some .log
  | 1 => some .hold
  | 2 => some .holdReject
  | _ => none

/-- The phase window at offset `o`, if every field is in its range and no minimum exceeds its maximum (R29,
R30). -/
def window? (a : List Byte) (o : Nat) : Option PhaseWindow :=
  match action? (byteAt a (o + 11)) with
  | none => none
  | some act =>
    let w : PhaseWindow :=
      { energyMin := word16At a o, energyMax := word16At a (o + 2)
        deformMin := word16At a (o + 4), deformMax := word16At a (o + 6)
        stickBand := byteAt a (o + 8), minSamples := word16At a (o + 9), action := act }
    if w.energyMin ≤ w.energyMax ∧ w.deformMin ≤ w.deformMax ∧ 16 ≤ w.minSamples
        ∧ w.minSamples ≤ 1024 then some w
    else none

/-- PROGRAM_WRITE (R30). -/
def cmdProgramWrite (p : Part) (a : List Byte) : Part :=
  match index? 64 (byteAt a 0), mark? (byteAt a 1), window? a 2, window? a 14 with
  | some g, some v, some b, some s =>
    replyDone (setBm p { p.bm with groups := vset p.bm.groups g ⟨v, b, s⟩ }) []
  | _, _, _, _ => replyRefused p .argument

/-- PROGRAM_READ (R31). -/
def cmdProgramRead (p : Part) (a : List Byte) : Part :=
  match index? 64 (byteAt a 0) with
  | none => replyRefused p .argument
  | some g => replyDone p (groupBytes (p.bm.groups.get g))

/-- MAP_CONFIG (R33). -/
def cmdMapConfig (p : Part) (a : List Byte) : Part :=
  let cfg := { p.store.config with mapBase := word32At a 0 }
  if cfg.mapBase % 64 ≠ 0 ∨ !regionsFit cfg then replyRefused p .argument
  else replyDone (flushCache (setStore p { p.store with config := cfg })) []

/-- A bank and wire among the arguments (R34, R35). -/
def mapKey? (a : List Byte) : Option MapKey :=
  match index? 4 (byteAt a 0) with
  | none => none
  | some b => if word16At a 1 ≤ 1023 then some ⟨b, word16At a 1⟩ else none

/-- MAP_WRITE (R34): the invalidation, then the request. -/
def cmdMapWrite (p : Part) (a : List Byte) : Part :=
  match mapKey? a with
  | none => replyRefused p .argument
  | some key =>
    if 63 < byteAt a 4 ∨ 63 < byteAt a 5 then replyRefused p .argument
    else
      let p := invalidateKey p key
      if inService p then
        enqueue p { kind := .mapWrite, addr := mapAddress p.store.config key, len := 4,
                    data := entryBytes (entryOf (a.drop 3)) }
      else replyRefused (countFaulted p) .store

/-- MAP_READ (R35). -/
def cmdMapRead (p : Part) (a : List Byte) : Part :=
  match mapKey? a with
  | none => replyRefused p .argument
  | some key =>
    if inService p then
      enqueue p { kind := .mapRead, addr := mapAddress p.store.config key, len := 4, data := [] }
    else replyRefused (countFaulted p) .store

/-- MAP_FLUSH (R45). -/
def cmdMapFlush (p : Part) : Part := replyDone (flushCache p) []

/-! ## Record Store Controller (R51 to R55, R62, R68) -/

/-- The transfer width of a byte (R185). -/
def width? : Nat → Option Width
  | 8 => some .eight
  | 16 => some .sixteen
  | _ => none

/-- The configuration that STORE_CONFIG carries, if it breaks no condition of R51. -/
def storeConfig? (a : List Byte) : Option StoreConfig :=
  match width? (byteAt a 0), mark? (byteAt a 1) with
  | some w, some r =>
    let c : StoreConfig :=
      { width := some w, readyUsed := r
        accessTime := some (byteAt a 2), timeout := some (byteAt a 3)
        mapBase := word32At a 4, bondBase := word32At a 8, bondCap := word16At a 12
        pullBase := word32At a 14, pullCap := word16At a 18 }
    if 1 ≤ byteAt a 2 ∧ byteAt a 2 ≤ 16 ∧ 1 ≤ byteAt a 3
        ∧ c.mapBase % 64 = 0 ∧ c.bondBase % 64 = 0 ∧ c.pullBase % 64 = 0
        ∧ 1024 ≤ c.bondCap ∧ c.bondCap ≤ 32768 ∧ 256 ≤ c.pullCap ∧ c.pullCap ≤ 4096
        ∧ regionsFit c then some c
    else none
  | _, _ => none

/-- STORE_CONFIG (R51): STATE is tested before ARGUMENT. -/
def cmdStoreConfig (p : Part) (a : List Byte) : Part :=
  if p.store.state ≠ .off then replyRefused p .state
  else
    match storeConfig? a with
    | none => replyRefused p .argument
    | some c =>
      let moved := c.mapBase ≠ p.store.config.mapBase
      let p := setStore p { p.store with
        config := c
        wb := BitVec.ofNat 32 (word32At a 20)
        wp := BitVec.ofNat 32 (word32At a 24) }
      replyDone (if moved then flushCache p else p) []

/-- STORE_ENABLE (R53). -/
def cmdStoreEnable (p : Part) : Part :=
  match p.store.state with
  | .off => if p.store.config.width.isSome then storeOn p else replyRefused p .state
  | .ready | .busy | .draining => replyDone p []

/-- STORE_DISABLE (R54). -/
def cmdStoreDisable (p : Part) : Part := storeOff p

/-- The data of STORE_STATUS (R62). The first-fault record has one presence bit for its three fields (log
entry 12). -/
def storeStatusData (s : RecordStore) : List Byte :=
  let f : FirstFault := s.firstFault.getD ⟨0, 0, 0⟩
  presence [s.firstFault.isSome]
  ++ [oneByte (storeStateCode s.state)] ++ storeConfigBytes s.config
  ++ le 4 s.wb.toNat ++ le 4 s.wp.toNat ++ [oneByte s.queue.length]
  ++ le 4 f.addr ++ [oneByte f.cls] ++ le 4 f.time.toNat

/-- STORE_STATUS (R62). -/
def cmdStoreStatus (p : Part) (a : List Byte) : Part :=
  match mark? (byteAt a 0) with
  | none => replyRefused p .argument
  | some clear =>
    let data := storeStatusData p.store
    replyDone (if clear then setStore p { p.store with firstFault := none } else p) data

/-- The region of a byte (R185). -/
def region? : Nat → Option Region
  | 0 => some .bondRing
  | 1 => some .pullLog
  | _ => none

/-- RECORD_READ (R68). -/
def cmdRecordRead (p : Part) (a : List Byte) : Part :=
  match region? (byteAt a 0) with
  | none => replyRefused p .argument
  | some r =>
    let k := BitVec.ofNat 32 (word32At a 1)
    let out := handInLookback p (.recordRead r k) r k
    match out.2 with
    | none => out.1
    | some x => replyLookback out.1 x

/-! ## Strip Tracker and channels (R71, R72, R91, R180) -/

/-- The lane configuration that LANE_CONFIG carries, if every item is in its range (R71). -/
def laneConfig? (a : List Byte) : Option LaneConfig :=
  match index? 4 (byteAt a 4) with
  | none => none
  | some b =>
    let c : LaneConfig :=
      { units := byteAt a 1, wires := word16At a 2, bank := b, touchdown := word16At a 5 }
    if 1 ≤ c.units ∧ c.units ≤ 64 ∧ 1 ≤ c.wires ∧ c.wires ≤ 1024 ∧ 1 ≤ c.touchdown
        ∧ c.touchdown ≤ 2047 then some c
    else none

/-- No strip record is at a position of the lane. -/
def laneEmpty (lane : Lane) : Bool :=
  lane.pulling.isNone && lane.pre.isNone && lane.bond.isNone && lane.exit.isNone

/-- LANE_CONFIG (R71). -/
def cmdLaneConfig (p : Part) (a : List Byte) : Part :=
  match side? (byteAt a 0), laneConfig? a with
  | some l, some c =>
    let lane := p.st.lanes.get l
    if lane.enabled || !laneEmpty lane then replyRefused p .state
    else replyDone (modLane p l fun x => { x with config := c, configured := true }) []
  | _, _ => replyRefused p .argument

/-- LANE_ENABLE (R72): DONE, and then what the sets that LANE_OFF leaves set off. -/
def cmdLaneEnable (p : Part) (a : List Byte) : Part :=
  match side? (byteAt a 0) with
  | none => replyRefused p .argument
  | some l =>
    let lane := p.st.lanes.get l
    if lane.enabled then replyDone p []
    else if lane.configured then dropLaneOff (replyDone (enableLane p l) []) l
    else replyRefused p .state

/-- LANE_DISABLE (R72). -/
def cmdLaneDisable (p : Part) (a : List Byte) : Part :=
  match side? (byteAt a 0) with
  | none => replyRefused p .argument
  | some l => replyDone (if (p.st.lanes.get l).enabled then disableLane p l else p) []

/-- LANE_PURGE (R91). -/
def cmdLanePurge (p : Part) (a : List Byte) : Part :=
  match side? (byteAt a 0) with
  | none => replyRefused p .argument
  | some l => replyDone (lanePurge p l) []

/-- HEAD_CHANNEL (R180). -/
def cmdHeadChannel (p : Part) (a : List Byte) : Part :=
  match side? (byteAt a 0), mark? (byteAt a 1) with
  | some h, some on =>
    let p := setChannel p h on
    replyDone p [boolByte (p.bm.channels.get h).on]
  | _, _ => replyRefused p .argument

/-! ## Holds and alarms (R124, R128, R132) -/

/-- HOLD (R132). -/
def cmdHold (p : Part) (a : List Byte) : Part :=
  match side? (byteAt a 0) with
  | none => replyRefused p .argument
  | some h => replyDone (holdHead p h) []

/-- RESUME (R132). -/
def cmdResume (p : Part) (a : List Byte) : Part :=
  match side? (byteAt a 0) with
  | none => replyRefused p .argument
  | some h => replyDone (resumeHead p h) []

/-- ALARM_ACK (R124). -/
def cmdAlarmAck (p : Part) (a : List Byte) : Part :=
  match ackAlarm p (BitVec.ofNat 16 (word16At a 0)) with
  | some p' => replyDone p' []
  | none => replyRefused (refuseAck p) .notFound

/-- The data of ALARM_LIST (R128, R186): the presence bytes of the listed entries' optional fields, the number
of entries in the list, and the entries listed. -/
def alarmListData (total : Nat) (listed : List Alarm) : List Byte :=
  presence (listed.flatMap fun x => subjectFlags x.subject)
  ++ [oneByte total, oneByte listed.length] ++ listed.flatMap alarmFields

/-- ALARM_LIST (R128). -/
def cmdAlarmList (p : Part) (a : List Byte) : Part :=
  if 31 < byteAt a 0 then replyRefused p .argument
  else
    let listed := (p.ahu.alarms.drop (byteAt a 0)).take 8
    replyDone p (alarmListData p.ahu.alarms.length listed)

/-! ## Pull Record Unit (R97, R112, R116) -/

/-- The pull set entry `e` of PLAN_WRITE, if it is in its ranges (R97, R185). -/
def pullPick? (a : List Byte) (e : Nat) : Option PullPick :=
  let wire := word16At a (7 + 3 * e)
  let cls := byteAt a (9 + 3 * e)
  if 1023 < wire then none
  else if (a.getD 6 0).getLsbD e then (index? 8 cls).map fun c => ⟨wire, some c⟩
  else some ⟨wire, none⟩

/-- The plan that PLAN_WRITE carries, if every item is in its range (R97). -/
def plan? (a : List Byte) : Option Plan :=
  let units := (List.range (byteAt a 2)).map fun i => byteAt a (3 + i)
  let picks := (List.range (byteAt a 5)).map (pullPick? a)
  if byteAt a 2 ≤ 2 ∧ byteAt a 5 ≤ 8 ∧ units.all (fun u => u ≤ 63) ∧ picks.all Option.isSome
      ∧ 1 ≤ byteAt a 31 ∧ byteAt a 31 ≤ 15 then
    some { interval := byteAt a 1, units := units, pullSet := picks.filterMap id
           tighten := byteAt a 31, deadline := byteAt a 32 }
  else none

/-- PLAN_WRITE (R97). -/
def cmdPlanWrite (p : Part) (a : List Byte) : Part :=
  match side? (byteAt a 0), plan? a with
  | some l, some x => replyDone (setPru p { p.pru with plans := p.pru.plans.set l x }) []
  | _, _ => replyRefused p .argument

/-- The class that CLASS_WRITE carries, if every field is in its range (R112). -/
def pullClass? (a : List Byte) : Option PullClass :=
  let m := a.getD 3 0
  if word16At a 1 ≤ 4095 ∧ m.toNat < 32 ∧ 1 ≤ byteAt a 4 ∧ byteAt a 4 ≤ 32 ∧ word16At a 5 ≤ 4095 then
    some { minForce := word16At a 1
           ballLift := m.getLsbD 0, neck := m.getLsbD 1, span := m.getLsbD 2
           heel := m.getLsbD 3, stitchLift := m.getLsbD 4
           failLimit := byteAt a 4, meanLimit := word16At a 5 }
  else none

/-- CLASS_WRITE (R112). -/
def cmdClassWrite (p : Part) (a : List Byte) : Part :=
  match index? 8 (byteAt a 0), pullClass? a with
  | some c, some x => replyDone (setPru p { p.pru with classes := vset p.pru.classes c x }) []
  | _, _ => replyRefused p .argument

/-- The data of WINDOW_READ (R116). -/
def windowData (p : Part) (l : Side) (c : Fin 8) : List Byte :=
  let w := (p.pru.windows.get l).get c
  let s := p.pru.sampling.get l
  presence [w.min.isSome]
  ++ oneByte w.forces.length
    :: (w.forces.map fun f => le 2 f.force ++ [if f.fail then 1 else 0]).flatten
  ++ [oneByte w.n] ++ le 4 w.sum ++ le 2 (w.min.getD 0) ++ [oneByte w.fails, boolByte w.tripped]
  ++ [boolByte s.tight, oneByte s.count, oneByte s.passes]
  ++ [oneByte (p.pru.pulls.countP fun e => e.lane == l)]

/-- WINDOW_READ (R116). -/
def cmdWindowRead (p : Part) (a : List Byte) : Part :=
  match side? (byteAt a 0), index? 8 (byteAt a 1) with
  | some l, some c => replyDone p (windowData p l c)
  | _, _ => replyRefused p .argument

/-! ## Panel Controller (R142 to R144, R147) -/

/-- The head of a panel: 0, 1, or 2 for NONE (R185). -/
def panelHead? (x : Nat) : Option (Option Side) :=
  if x = 2 then some none else (side? x).map some

/-- Another enabled entry of the panel table has the address (R142). -/
def addressTaken (c : PanelController) (i : Fin 4) (address : Nat) : Bool :=
  (List.finRange 4).any fun k =>
    k != i && (c.panels.get k).enabled && (c.panels.get k).address == address

/-- PANEL_CONFIG, panel form (R142). -/
def cmdPanelConfig (p : Part) (a : List Byte) : Part :=
  let panel := if byteAt a 0 = 0 then none else index? 4 (byteAt a 0 - 1)
  let address := byteAt a 2
  match panel, mark? (byteAt a 1), panelHead? (byteAt a 3) with
  | some i, some on, some head =>
    if address = 0 ∨ 4 < address ∨ (on ∧ addressTaken p.pnc i address) then replyRefused p .argument
    else replyDone (configPanel p i on address head) []
  | _, _, _ => replyRefused p .argument

/-- The parity of a byte (R185). -/
def parity? : Nat → Option Parity
  | 0 => some .none
  | 1 => some .even
  | 2 => some .odd
  | _ => none

/-- PANEL_CONFIG, line form (R143). -/
def cmdPanelLine (p : Part) (a : List Byte) : Part :=
  match parity? (byteAt a 1) with
  | none => replyRefused p .argument
  | some y =>
    if byteAt a 2 = 0 ∨ 2 < byteAt a 2 ∨ byteAt a 3 = 0 then replyRefused p .argument
    else
      replyDone (configLine p
        { divisor := byteAt a 0, parity := y, twoStops := byteAt a 2 == 2, timeout := byteAt a 3 }) []

/-- The entry of a poll table byte: 0 NONE, or a panel 1 to 4 (R185); 0 for a byte out of range. -/
def pollEntry (x : Nat) : Option (Fin 4) := if x = 0 then none else index? 4 (x - 1)

/-- POLL_WRITE (R144). -/
def cmdPollWrite (p : Part) (a : List Byte) : Part :=
  if (List.range 16).any fun i => 4 < byteAt a i then replyRefused p .argument
  else replyDone (writePoll p (vtab 16 fun i => pollEntry (byteAt a i))) []

/-- The live items in the order of R148. -/
def liveItems : List LiveItem :=
  [.stripAtBond, .unitsDone, .unitsTotal, .holdState, .bondsIssued, .bondsFailed, .lastVerdict,
   .lastEnergy, .lastDeform, .pullMean, .pullFails, .pendingPulls, .alarmCount, .inputLoaded,
   .outputFree, .ringState]

/-- A live item is of kind text (R148). -/
def isText : LiveItem → Bool
  | .holdState | .lastVerdict | .ringState => true
  | .stripAtBond | .unitsDone | .unitsTotal | .bondsIssued | .bondsFailed | .lastEnergy | .lastDeform
  | .pullMean | .pullFails | .pendingPulls | .alarmCount | .inputLoaded | .outputFree => false

/-- The selector of a byte (R185). -/
def selector? : Nat → Option Selector
  | 0 => some .own
  | 1 => some (.side .zero)
  | 2 => some (.side .one)
  | _ => none

/-- The format of a byte (R185). -/
def format? : Nat → Option FieldFormat
  | 0 => some .dec
  | 1 => some .dec1
  | 2 => some .text
  | _ => none

/-- The field slot at offset `o`, if it is in its ranges and its format fits its item (R147). -/
def slot? (a : List Byte) (o : Nat) : Option FieldSlot :=
  match liveItems[byteAt a (o + 2)]?, selector? (byteAt a (o + 3)), index? 8 (byteAt a (o + 4)),
      format? (byteAt a (o + 5)) with
  | some item, some sel, some c, some f =>
    let col := byteAt a o
    let w := byteAt a (o + 1)
    if 1 ≤ w ∧ w ≤ 8 ∧ col + w ≤ lineLength ∧ isText item = (f == .text) then
      some ⟨col, w, item, sel, c, f⟩
    else none
  | _, _, _, _ => none

/-- Two field slots share no column (R147). -/
def slotsApart (x y : FieldSlot) : Bool :=
  x.column + x.width ≤ y.column || y.column + y.width ≤ x.column

/-- No two slots of a list overlap. -/
def allApart : List FieldSlot → Bool
  | [] => true
  | x :: xs => xs.all (slotsApart x) && allApart xs

/-- The template that SCREEN_WRITE carries, if it breaks no condition of R147 on text and slots. -/
def template? (a : List Byte) : Option Template :=
  let text := (a.drop 2).take lineLength
  let slots := (List.range (byteAt a 26)).map fun i => slot? a (27 + 6 * i)
  if byteAt a 26 ≤ 4 ∧ text.all (fun b => 0x20 ≤ b.toNat && b.toNat ≤ 0x7E)
      ∧ slots.all Option.isSome ∧ allApart (slots.filterMap id) then
    some { text := text, slots := slots.filterMap id }
  else none

/-- SCREEN_WRITE (R147). -/
def cmdScreenWrite (p : Part) (a : List Byte) : Part :=
  match index? 4 (byteAt a 0), index? 8 (byteAt a 1), template? a with
  | some g, some l, some t =>
    if g = 1 ∧ l ≠ 0 then replyRefused p .argument else replyDone (writeScreen p g l t) []
  | _, _, _ => replyRefused p .argument

/-! ## Command Unit (R176 to R179) -/

/-- The verdict item of a byte (R185). -/
def verdictSelect? : Nat → Option VerdictSelect
  | 0 => some .none
  | 1 => some .fails
  | 2 => some .all
  | _ => none

/-- NOTICE_SELECT (R176). -/
def cmdNoticeSelect (p : Part) (a : List Byte) : Part :=
  match verdictSelect? (byteAt a 0), mark? (byteAt a 1), mark? (byteAt a 2), mark? (byteAt a 3),
      mark? (byteAt a 4) with
  | some v, some s, some u, some m, some w =>
    replyDone (setCu p { p.cu with select := ⟨v, s, u, m, w⟩ }) []
  | _, _, _, _, _ => replyRefused p .argument

/-- The counter groups, in the order of R177. -/
inductive CounterGroup where
  | ring
  | channel (h : Side)
  | map
  | store
  | strips
  | pulls
  | alarms
  | panels
  | commands
  deriving DecidableEq, Repr

/-- The group of a byte (R177, R185). -/
def counterGroup? (x : Nat) : Option CounterGroup :=
  [CounterGroup.ring, .channel .zero, .channel .one, .map, .store, .strips, .pulls, .alarms, .panels,
   .commands][x]?

/-- The counters of a group, in the order of its owning table. -/
def groupCounters (p : Part) : CounterGroup → List Count
  | .ring =>
    let c := p.rp.counters
    [c.good, c.damaged, c.malformedFrames, c.malformedParcels, c.ownRemoved, c.consumed,
     c.notConsumed, c.ignored, c.snooped, c.noticesDropped, c.inserted, c.losses]
  | .channel h =>
    let c := (p.bm.channels.get h).counters
    [c.unmonitored, c.lateSamples, c.malformed, c.strayCloses, c.outsideUnit, c.issued, c.failed]
  | .map =>
    let c := p.map.counters
    [c.hits, c.joins, c.fetches, c.placeWaits, c.prefetches, c.staleFetches, c.fetchFaults]
  | .store =>
    let c := p.store.counters
    [c.timeouts, c.faulted, c.notYet, c.lost]
  | .strips =>
    let c := p.st.counters
    [c.starvations, c.untrackedArrivals, c.strayEnds, c.abandoned, c.untrackedRemovals,
     c.magIgnored]
  | .pulls =>
    let c := p.pru.counters
    [c.dropped, c.malformed, c.unsolicited, c.expired, c.evicted, c.selDropped, c.purged,
     c.notWritten]
  | .alarms =>
    let c := p.ahu.counters
    [c.raised, c.coalesced, c.refused]
  | .panels =>
    (p.pnc.panels.toList.map fun x => x.errorsCount)
    ++ (p.pnc.panels.toList.map fun x => x.missesCount) ++ [p.pnc.strays, p.pnc.keysRefused]
  | .commands => [p.cu.done, p.cu.refused]

/-- The counters of a group cleared to 0 (R177). -/
def clearGroup (p : Part) : CounterGroup → Part
  | .ring => countRing p fun _ => {}
  | .channel h => tracked (fun p => countChannel p h fun _ => {}) p
  | .map => countMap p fun _ => {}
  | .store => countStore p fun _ => {}
  | .strips => countStrips p fun _ => {}
  | .pulls => countPulls p fun _ => {}
  | .alarms => countAlarms p fun _ => {}
  | .panels =>
    let p := modPanels p fun x => { x with errorsCount := 0, missesCount := 0 }
    setPnc p { p.pnc with strays := 0, keysRefused := 0 }
  | .commands => setCu p { p.cu with done := 0, refused := 0 }

/-- COUNTERS_READ (R177). -/
def cmdCountersRead (p : Part) (a : List Byte) : Part :=
  match counterGroup? (byteAt a 0), mark? (byteAt a 1) with
  | some g, some clear =>
    let data := ((groupCounters p g).map fun c => le 2 c.toNat).flatten
    replyDone (if clear then clearGroup p g else p) data
  | _, _ => replyRefused p .argument

/-- Each deferred ask present, as flags: feed, unit and move asks of lanes 0 and 1 (log entry 12). -/
def askFlags (p : Part) : List Bool :=
  let a := p.st.lanes.zero
  let b := p.st.lanes.one
  [a.feedAsk.isSome, b.feedAsk.isSome, a.unitAsk.isSome, b.unitAsk.isSome, a.moveAsk.isSome,
   b.moveAsk.isSome]

/-- The strip numbers at the positions of both lanes, lane 0 first (log entry 12). -/
def laneStrips (p : Part) : List (Option (BitVec 16)) :=
  allPlaces.map fun x => (atPosition (p.st.lanes.get x.1) x.2).map fun s => s.number

/-- The strip number of a FILLED slot. -/
def filledNumber : OutSlot → Option (BitVec 16)
  | .filled n => some n
  | .unknown | .empty | .filledForeign => none

/-- An output slot map: its 40 states, then the strip numbers of its FILLED slots (log entry 12). -/
def outMapBytes (m : Vector OutSlot 40) : List Byte :=
  let filled := m.toList.filterMap filledNumber
  m.toList.map (fun x => oneByte (outSlotCode x))
  ++ oneByte filled.length :: (filled.map fun n => le 2 n.toNat).flatten

/-- The lane that a BUSY elevator serves. -/
def elevatorLane : Elevator → Option Side
  | .idle => none
  | .busy l _ => some l

/-- The Ring Port's and the Command Unit's part of STATUS_READ (R178). That the counts are those before the
command's own reply is queued, its own reservation among the reservations, is the model's choice (log entry 38). -/
def statusRing (p : Part) : List Byte :=
  let s := p.cu.select
  [ownStation p, if p.rp.up then 0 else 1] ++ le 2 p.rp.lastCycle.toNat
  ++ [oneByte p.rp.outbound.length, oneByte (noticeCount p), oneByte p.rp.reservations]
  ++ [oneByte (verdictSelectCode s.verdicts), boolByte s.strips, boolByte s.pulls, boolByte s.alarms,
      boolByte s.wraps]
  ++ le 4 p.time.toNat

/-- A channel's contexts not FREE and occupied write slots (R178). -/
def statusChannel (c : Channel) : List Byte :=
  [oneByte (vcount Option.isSome c.contexts), oneByte ([c.slots.zero, c.slots.one].countP Option.isSome)]

/-- The Bond Monitor's part of STATUS_READ (R178): the setting of each channel, then the counts of each, channel by
channel: the model's choice (log entry 12). -/
def statusBonds (c : Two Channel) : List Byte :=
  [boolByte c.zero.on, boolByte c.one.on] ++ statusChannel c.zero ++ statusChannel c.one

/-- The Record Store Controller's part of STATUS_READ (R178). That its last byte is 1 while the first-fault record is
empty is the model's choice (log entry 12). -/
def statusStore (s : RecordStore) : List Byte :=
  [oneByte (storeStateCode s.state)] ++ le 4 s.wb.toNat ++ le 4 s.wp.toNat
  ++ [oneByte s.queue.length, boolByte s.firstFault.isNone]

/-- The Strip Tracker's part of STATUS_READ (R178). That the items of the two lanes stand lane by lane, lane 0's
state and configured mark before lane 1's state and mark, is the model's choice (log entry 12). -/
def statusStrips (p : Part) : List Byte :=
  let a := p.st.lanes.zero
  let b := p.st.lanes.one
  [boolByte a.enabled, boolByte a.configured, boolByte b.enabled, boolByte b.configured]
  ++ ((laneStrips p).map fun n => le 2 (n.getD 0).toNat).flatten
  ++ [oneByte p.st.pool, oneByte p.st.purged.length]
  ++ [boolByte (elevatorLane p.st.elevator).isSome,
      oneByte (((elevatorLane p.st.elevator).map Side.toNat).getD 0)]
  ++ [oneByte p.st.lastGranted.toNat] ++ le 2 p.st.nextStrip.toNat
  ++ [oneByte (bitsOf (askFlags p))]
  ++ p.st.inMap.toList.map (fun x => oneByte (inSlotCode x))
  ++ outMapBytes a.outMap ++ outMapBytes b.outMap

/-- The Pull Record Unit's and the Alarm and Hold Unit's part of STATUS_READ (R178). That the error sum is 1 while set
and a hold line's level 1 while asserted is the model's choice (log entry 12). -/
def statusPulls (p : Part) : List Byte :=
  [boolByte p.pru.sampling.zero.tight, boolByte p.pru.sampling.one.tight, oneByte p.pru.pulls.length,
   oneByte p.pru.intake.length, oneByte p.pru.writeList.length]
  ++ [boolByte (errorSum p), oneByte p.ahu.alarms.length,
      oneByte (bitsOf (headReasons p.ahu.heads.zero)), oneByte (bitsOf (headReasons p.ahu.heads.one)),
      oneByte (bitsOf (feederReasons p.ahu.feeders.zero)),
      oneByte (bitsOf (feederReasons p.ahu.feeders.one)),
      boolByte (holdLine p .zero), boolByte (holdLine p .one)]

/-- The data of STATUS_READ (R178). The lane of the elevator is an optional field, absent while IDLE (log
entry 12). -/
def statusData (p : Part) : List Byte :=
  presence ((laneStrips p).map Option.isSome ++ [(elevatorLane p.st.elevator).isSome])
  ++ statusRing p ++ statusBonds p.bm.channels ++ statusStore p.store ++ statusStrips p
  ++ statusPulls p

/-- STATUS_READ (R178). -/
def cmdStatusRead (p : Part) : Part := replyDone p (statusData p)

/-- The work restart of the Ring Port (R172): the notices leave the outbound queue. -/
def restartOutbound (p : Part) : Part :=
  setRp p { p.rp with outbound := p.rp.outbound.filter fun q => !isNotice q }

/-- A work restart of every block (R179). -/
def workRestart (p : Part) : Part :=
  let p := restartOutbound p
  let p := restartChannels p
  let p := flushCache p
  let p := restartQueue p
  let p := restartStrips p
  let p := restartPulls p
  restartPanels (restartHolds p)

/-- RESTART (R179). Once it has been taken, the Pull Record Unit hands in the records of its kept write list
for which the withdrawn lookbacks have freed a place (R69, R110, R118; log entry 19). -/
def cmdRestart (p : Part) : Part := handInWrites 2 (replyDone (workRestart p) [])

/-! ## The table of R185 -/

/-- The command of a row acts on its arguments (R174). -/
def runRow (p : Part) (c : Command) (a : List Byte) : Part :=
  match c with
  | .stationSet => cmdStationSet p a
  | .stationSetRing => cmdStationRing p a
  | .stationGet => cmdStationGet p
  | .programWrite => cmdProgramWrite p a
  | .programRead => cmdProgramRead p a
  | .mapConfig => cmdMapConfig p a
  | .mapWrite => cmdMapWrite p a
  | .mapRead => cmdMapRead p a
  | .mapFlush => cmdMapFlush p
  | .storeConfig => cmdStoreConfig p a
  | .storeEnable => cmdStoreEnable p
  | .storeDisable => cmdStoreDisable p
  | .storeStatus => cmdStoreStatus p a
  | .recordRead => cmdRecordRead p a
  | .laneConfig => cmdLaneConfig p a
  | .laneEnable => cmdLaneEnable p a
  | .laneDisable => cmdLaneDisable p a
  | .lanePurge => cmdLanePurge p a
  | .headChannel => cmdHeadChannel p a
  | .hold => cmdHold p a
  | .resume => cmdResume p a
  | .planWrite => cmdPlanWrite p a
  | .classWrite => cmdClassWrite p a
  | .windowRead => cmdWindowRead p a
  | .alarmAck => cmdAlarmAck p a
  | .alarmList => cmdAlarmList p a
  | .panelConfig => cmdPanelConfig p a
  | .panelConfigLine => cmdPanelLine p a
  | .pollWrite => cmdPollWrite p a
  | .screenWrite => cmdScreenWrite p a
  | .noticeSelect => cmdNoticeSelect p a
  | .countersRead => cmdCountersRead p a
  | .statusRead => cmdStatusRead p
  | .restart => cmdRestart p

/-- A consumed COMMAND (R174, R181): it becomes the command in progress and is acted on; an unknown code or
form is refused with ARGUMENT. -/
def takeCommand (p : Part) (asker : Ask) (pl : List Byte) : Part :=
  let p := setCu p { p.cu with inProgress := some ⟨asker.station, asker.tag, pl.getD 0 0⟩ }
  match commandRow (byteAt pl 0) (byteAt pl 1) with
  | none => replyRefused p .argument
  | some r => runRow p r.command (pl.drop 2)

end Sys2Proof.Machine
end

