-- ==== Sys2Proof/Machine/Ring.lean ====
section
/-! DEFINITION. The Ring Port: the parcel walk, consuming and snooping, insertion, the classes of frames and
the ring watchdog (Chapter 8). -/

namespace Sys2Proof.Machine

/-! ## Source roles (R162, Section 8.4) -/

/-- The role of a station; station 0 and numbers above 30 have no entry (R162). -/
def roleOf (p : Part) (source : Byte) : Option Role :=
  (stationIndex? source.toNat).map fun i => p.rp.table.get i

/-- The head of a station whose role is HEAD_BOARD. -/
def headOf (p : Part) (source : Byte) : Option Side :=
  match roleOf p source with
  | some (.headBoard h) => some h
  | some .vacant | some .indexer | some .pullTester | some .other | none => none

/-- The source role fits the kind (Section 8.4). -/
def fits (p : Part) (k : Kind) (source : Byte) : Bool :=
  match k with
  | .command => source == 0
  | .unitAsk | .bondOpen | .samples | .bondClose | .unitEnd => (headOf p source).isSome
  | .feedAsk | .moveAsk | .ejectAsk | .magEvent | .stripEvent => roleOf p source == some .indexer
  | .workAsk | .pullResult => roleOf p source == some .pullTester
  | .empty | .untested => false

/-! ## Handing parcels to their blocks (Section 8.4) -/

/-- A request goes to its block (Section 8.4); `h` is the head of a head board. -/
def actRequest (k : Kind) (h : Option Side) (a : Ask) (pl : List Byte) (p : Part) : Part :=
  match k, h with
  | .command, _ => takeCommand p a pl
  | .unitAsk, some h => unitAsk p h a pl
  | .feedAsk, _ => feedAsk p a pl
  | .moveAsk, _ => moveAsk p a pl
  | .ejectAsk, _ => ejectAsk p a pl
  | .workAsk, _ => workAsk p a pl
  | .unitAsk, none => p
  | .empty, _ | .bondOpen, _ | .samples, _ | .bondClose, _ | .unitEnd, _ | .magEvent, _
  | .stripEvent, _ | .pullResult, _ | .untested, _ => p

/-- Telemetry goes to its block (Section 8.4, R166); `h` is the head of a head board. -/
def actTelemetry (k : Kind) (h : Option Side) (pl : List Byte) (p : Part) : Part :=
  match k, h with
  | .bondOpen, some h => bondOpen p h pl
  | .samples, some h => bondSamples p h pl
  | .bondClose, some h => bondClose p h pl
  | .unitEnd, some h => unitEnd p h pl
  | .magEvent, _ => magEvent p pl
  | .stripEvent, _ => stripEvent p pl
  | .pullResult, _ => pullResult p pl
  | .bondOpen, none | .samples, none | .bondClose, none | .unitEnd, none => p
  | .empty, _ | .command, _ | .unitAsk, _ | .feedAsk, _ | .moveAsk, _ | .ejectAsk, _ | .workAsk, _
  | .untested, _ => p

/-! ## The handling of one parcel (R160, R163, R164, R166) -/

/-- A request can be consumed (R164): a reply place can be reserved, and no command is in progress when it
is a COMMAND. -/
def canConsume (p : Part) (k : Kind) : Bool :=
  decide (outboundTotal p < outboundPlaces) && (k != .command || p.cu.inProgress.isNone)

/-- A reservation is made (R164). -/
def reserve (p : Part) : Part := setRp p { p.rp with reservations := p.rp.reservations + 1 }

/-- A request is consumed (R164): its place is reserved, it is counted, and its block acts on it. -/
def consume (p : Part) (k : Kind) (q : Parcel) : Part :=
  let p := countRing (reserve p) fun c => { c with consumed := inc c.consumed }
  actRequest k (headOf p q.source) ⟨q.source, q.tag⟩ q.payload p

/-- A telemetry parcel is snooped (R166). -/
def snoop (p : Part) (k : Kind) (q : Parcel) : Part :=
  let p := countRing p fun c => { c with snooped := inc c.snooped }
  actTelemetry k (headOf p q.source) q.payload p

/-- A parcel that R163 case 4 counts as ignored: addressed to the part, or telemetry whose source role does
not fit (log entry 16). -/
def countsIgnored (p : Part) (k : Kind) (q : Parcel) : Bool :=
  q.dest == ownStation p || (isTelemetry k && !fits p k q.source)

/-- The handling of a parcel (R160, R163). The second component says that a filler takes its place. -/
def handleParcel (p : Part) (q : Parcel) : Part × Bool :=
  let k := kindOf q.kind
  if k = .empty then (p, false)
  else if !lengthFits k q.payload || q.source == 31 then
    (countRing p fun c => { c with malformedParcels := inc c.malformedParcels }, false)
  else if q.source = ownStation p then
    (countRing p fun c => { c with ownRemoved := inc c.ownRemoved }, true)
  else if isRequest k && q.dest == ownStation p && fits p k q.source then
    if canConsume p k then (consume p k q, true)
    else (countRing p fun c => { c with notConsumed := inc c.notConsumed }, false)
  else if isTelemetry k && fits p k q.source then (snoop p k q, false)
  else if countsIgnored p k q then
    (countRing p fun c => { c with ignored := inc c.ignored }, false)
  else (p, false)

/-! ## The walk (R160) -/

/-- What a walk leaves: the part, the used part of the parcel area, and whether it stopped early. -/
structure Walked where
  part : Part
  bytes : List Byte
  stopped : Bool
  deriving DecidableEq, Repr

/-- The first parcel of the bytes up to the used length; none when the walk stops early there (R160): the
payload length is above 240, or the parcel would run past the used length. That a header cut short stops it too, and
a length above 240 whatever the kind, is the model's reading (log entry 16). -/
def readParcel (bs : List Byte) : Option Parcel :=
  let n := byteAt bs 4
  if maxPayload < n ∨ bs.length < parcelHeaderLength + n then none
  else some ⟨bs.getD 0 0, bs.getD 1 0, bs.getD 2 0, bs.getD 3 0, (bs.drop parcelHeaderLength).take n⟩

/-- The bytes that go on in a parcel's place: the parcel, or a filler of its length (R163, R164, R184). -/
def forwardedBytes (own : Byte) (q : Parcel) (filler : Bool) : List Byte :=
  if filler then fillerBytes own q.payload.length else parcelBytes q

/-- The walk over the bytes up to the used length, of at most `k` parcels (R160). -/
def walkParcels : Nat → Part → List Byte → Walked
  | 0, p, bs => ⟨p, bs, false⟩
  | k + 1, p, bs =>
    if bs.isEmpty then ⟨p, [], false⟩
    else
      match readParcel bs with
      | none => ⟨countRing p fun c => { c with malformedFrames := inc c.malformedFrames }, bs, true⟩
      | some q =>
        let out := handleParcel p q
        let rest := walkParcels k out.1 (bs.drop (parcelLength q))
        ⟨rest.part, forwardedBytes (ownStation p) q out.2 ++ rest.bytes, rest.stopped⟩

/-! ## Insertion (R169) -/

/-- The parcels that fit the free room in order, and those that stay queued (R169). -/
def fitParcels : Nat → List Parcel → List Parcel × List Parcel
  | _, [] => ([], [])
  | free, q :: qs =>
    if parcelLength q ≤ free then
      let r := fitParcels (free - parcelLength q) qs
      (q :: r.1, r.2)
    else ([], q :: qs)

/-- The outbound queue is drained into the free room of a frame whose walk ended normally (R169). `used` is
the part of its area up to the used length, as the walk left it. -/
def insertParcels (p : Part) (f : Frame) (used : List Byte) : Part × Frame :=
  let out := fitParcels (f.capacity.toNat - used.length) p.rp.outbound
  let bytes := used ++ (out.1.map parcelBytes).flatten
  let p := setRp p { p.rp with outbound := out.2 }
  let p := countRing p fun c => { c with inserted := incMany out.1.length c.inserted }
  (p, { f with area := bytes ++ f.area.drop bytes.length, used := BitVec.ofNat 16 bytes.length })

/-! ## Frames (R158, R159) -/

/-- A frame goes out on RING_OUT. -/
def forward (p : Part) (f : Frame) : Part := setRp p { p.rp with forwarded := some f }

/-- A damaged frame (R159): one that fails its check goes on marked, with its check computed anew; one that
arrives marked goes on unchanged. -/
def damagedFrame (p : Part) (f : Frame) : Part :=
  let p := countRing p fun c => { c with damaged := inc c.damaged }
  forward p (if checkPasses f then f else sealFrame (markDamaged f))

/-- A malformed frame (R158). -/
def malformedFrame (p : Part) (f : Frame) : Part :=
  forward (countRing p fun c => { c with malformedFrames := inc c.malformedFrames }) f

/-- The watchdog is restarted with the full ring timeout, and the ring is UP (R170). -/
def ringUp (p : Part) : Part :=
  dropRingLost (setRing (setRp p { p.rp with watchdog := true, period := p.rp.timeout }) true)

/-- A good frame (R158, R160, R169). It is counted before its walk: the model's choice (log entry 35). Sealing a
frame that nothing changed gives it back as it arrived, since it passed its check. -/
def goodFrame (p : Part) (f : Frame) : Part :=
  let p := ringUp p
  let p := setRp p { p.rp with lastCycle := f.cycle }
  let p := countRing p fun c => { c with good := inc c.good }
  let w := walkParcels f.used.toNat p (f.area.take f.used.toNat)
  if w.stopped then
    forward w.part (sealFrame { f with area := w.bytes ++ f.area.drop f.used.toNat })
  else
    let out := insertParcels w.part f w.bytes
    forward out.1 (sealFrame out.2)

/-- A frame arrives at the Ring Port (R158). -/
def frameArrives (p : Part) (f : Frame) : Part :=
  match frameClass f with
  | .damaged => damagedFrame p f
  | .malformed => malformedFrame p f
  | .good => goodFrame p f

/-! ## The ring watchdog (R170) -/

/-- The declaration of ring loss (R170). -/
def ringLoss (p : Part) : Part :=
  let p := addRingLost (setRing p false)
  let p := raiseAlarm p .ringLost .ring none
  let p := setRp p { p.rp with watchdog := false }
  countRing p fun c => { c with losses := inc c.losses }

/-- The watchdog expires (R170); a STOPPED watchdog does not. -/
def watchdogExpires (p : Part) : Part := if p.rp.watchdog then ringLoss p else p

end Sys2Proof.Machine
end

