-- ==== Sys2Proof/Machine/Events.lean ====
section
/-! DEFINITION. The meaning of every command of the block: one definition for each row of
spec/opcode_table.json. Each changes the part, and ACCESS_COMPLETE the SRAM too. None of them touches the
queue of waiting commands. -/

namespace Sys2Proof.Machine

/-- A command changes the part alone, and answers the next state. -/
def onPart (f : Part → Part) (s : State) : Host.Outcome State Fault Refusal :=
  .next { s with part := f s.part }

/-! ## POWER_ON_RESET -/

/-- The station number that the strap levels give (R161). -/
def strapNumber (straps : BitVec 5) : BitVec 5 := if straps = 31 then 30 else straps

/-- The part while RESET is asserted (R131, Section 0.5.7): the whole part stands at its power-on values, so that
both head sets hold LANE_OFF and both hold lines are asserted. The watchdog runs only from the end of the reset
(R170). The station number is latched as the reset ends (R161); until then the one held before stands (log
entry 22). -/
def resetAsserted (p : Part) : Part := { rp := { station := p.rp.station, watchdog := false } }

/-- RESET ends: the station number is latched from the straps (R161) and the watchdog is RUNNING (R170). -/
def resetEnds (straps : BitVec 5) (p : Part) : Part :=
  setRp p { p.rp with station := strapNumber straps, watchdog := true }

/-- POWER_ON_RESET (R161, Section 0.5.7): RESET is asserted and ends. The SRAM is outside the part and keeps its
bytes. -/
def execPowerOnReset (straps : BitVec 5) (s : State) : Host.Outcome State Fault Refusal :=
  onPart (fun p => resetEnds straps (resetAsserted p)) s

/-! ## Time -/

/-- The milliseconds of a minute. -/
def minuteMs : Nat := 60000

/-- The multiple of 60,000 that part time crosses next; beyond the last one the count wraps to 0, which is
one too (R1). -/
def nextMinute (t : BitVec 32) : BitVec 32 :=
  let m := (t.toNat / minuteMs + 1) * minuteMs
  if m < 2 ^ 32 then BitVec.ofNat 32 m else 0

/-- Part time crosses the next multiple of 60,000, a minute tick (R1), and the pending pulls age (R104). -/
def minuteTick (p : Part) : Part :=
  minuteEffects (setTime p (nextMinute p.time))

/-- MINUTE_TICK (R1, R104). -/
def execMinuteTick (s : State) : Host.Outcome State Fault Refusal := onPart minuteTick s

/-- One millisecond of part time passes (R1), with the minute tick that it may bring (log entry 5). -/
def passMs (p : Part) : Part :=
  let t := p.time + 1
  if t.toNat % minuteMs = 0 then minuteEffects (setTime p t) else setTime p t

/-- The oldest pending pull that is due expires; nothing happens when none is due, or when the write list
has no place for it (R104, R105). -/
def pullExpiry (p : Part) : Part := (expireOne p).getD p

/-- PULL_EXPIRY (R105). -/
def execPullExpiry (s : State) : Host.Outcome State Fault Refusal := onPart pullExpiry s

/-! ## The ring -/

/-- FRAME_ARRIVAL (R158). -/
def execFrameArrival (f : Frame) (s : State) : Host.Outcome State Fault Refusal :=
  onPart (fun p => frameArrives p f) s

/-- RING_WATCHDOG_EXPIRY (R170). -/
def execRingWatchdogExpiry (s : State) : Host.Outcome State Fault Refusal := onPart watchdogExpires s

/-! ## The record store -/

/-- The bytes that a read access delivers from consecutive addresses (R49). -/
def readBytes (m : Sram) (a n : Nat) : List Byte := (List.range n).map fun i => sramByte m (a + i)

/-- What the access in progress does to the SRAM as it completes (R49): a write changes the bytes it
addresses. -/
def accessWrites (s : State) : Sram :=
  match inProgress s.part with
  | none => s.sram
  | some (r, _) =>
    let c := s.part.store.config
    if isWrite r then
      sramWriteAll s.sram (accessAddress c r s.part.store.done) (accessData c r s.part.store.done)
    else s.sram

/-- What the access in progress delivers as it completes (R49): the data present at its completion, for a
read. -/
def accessReads (s : State) : List Byte :=
  match inProgress s.part with
  | none => []
  | some (r, _) =>
    let c := s.part.store.config
    if isWrite r then []
    else readBytes s.sram (accessAddress c r s.part.store.done) (accessWidth c)

/-- ACCESS_COMPLETE (R49, R50, R55, R58). -/
def execAccessComplete (s : State) : Host.Outcome State Fault Refusal :=
  .next { s with
    part := completeAccess s.part (accessReads s)
    sram := accessWrites s }

/-- ACCESS_TIMEOUT (R60). -/
def execAccessTimeout (s : State) : Host.Outcome State Fault Refusal := onPart timeoutAccess s

/-! ## The panel line -/

/-- MESSAGE_SENT (R138). -/
def execMessageSent (s : State) : Host.Outcome State Fault Refusal := onPart messageSent s

/-- CHARACTER_RECEIVED (R139). -/
def execCharacterReceived (c : RxChar) (s : State) : Host.Outcome State Fault Refusal :=
  onPart (fun p => receiveChar p c) s

/-- REPLY_WINDOW_CLOSE (R141, R146). -/
def execReplyWindowClose (s : State) : Host.Outcome State Fault Refusal := onPart closeWindow s

/-- REST_END (R144). -/
def execRestEnd (s : State) : Host.Outcome State Fault Refusal := onPart restEnds s

end Sys2Proof.Machine
end

