-- ==== Sys2Proof/Machine/Dispatch.lean ====
section
/-! DEFINITION. The one table from a command to its meaning. -/

namespace Sys2Proof.Machine

/-- The effect of a command on everything but the queue of waiting commands. -/
def exec (i : Instr) (s : State) : Host.Outcome State Fault Refusal :=
  match i with
  | .powerOnReset straps => Sys2Proof.Machine.execPowerOnReset straps s
  | .minuteTick => Sys2Proof.Machine.execMinuteTick s
  | .pullExpiry => Sys2Proof.Machine.execPullExpiry s
  | .frameArrival f => Sys2Proof.Machine.execFrameArrival f s
  | .ringWatchdogExpiry => Sys2Proof.Machine.execRingWatchdogExpiry s
  | .accessComplete => Sys2Proof.Machine.execAccessComplete s
  | .accessTimeout => Sys2Proof.Machine.execAccessTimeout s
  | .messageSent => Sys2Proof.Machine.execMessageSent s
  | .characterReceived c => Sys2Proof.Machine.execCharacterReceived c s
  | .replyWindowClose => Sys2Proof.Machine.execReplyWindowClose s
  | .restEnd => Sys2Proof.Machine.execRestEnd s

end Sys2Proof.Machine
end

