-- ==== Sys2Proof/Machine/Step.lean ====
section
/-! DEFINITION. The step: the command at the front of the queue runs; on an empty queue a millisecond of part
time passes. -/

namespace Sys2Proof.Machine

/-- One step. With no command waiting, part time advances by one millisecond (R1; log entry 5). -/
def step (s : State) : Host.Outcome State Fault Refusal :=
  match s.pending with
  | [] => .next { s with part := passMs s.part }
  | c :: cs => exec c { s with pending := cs }

/-- `s` with the command that a word spells at the front of its queue; `s` itself where the word spells
none. -/
def State.withFetchWord (s : State) (nbits w : Nat) : State :=
  match decodeTableWord nbits w with
  | none => s
  | some c => { s with pending := c :: s.pending }

end Sys2Proof.Machine
end

