-- ==== Sys2Proof/Safety.lean ====
section
/-! DEFINITION. What counts as a safe run: the properties of a state that the spec promises, which every step
must keep from every state that has them; and what the end of a store request brings, which several statements
name. -/

namespace Sys2Proof.Machine

/-- The SRAM is in canonical form (log entry 1). -/
abbrev Memory.wf (m : Sram) : Prop := sramWf m = true

/-- No two entries of the alarm list share both kind and source (R120). -/
abbrev AlarmsUnique (as : List Alarm) : Prop :=
  as.Pairwise fun a b => ¬(a.kind = b.kind ∧ a.source = b.source)

/-- How many strip records stand at the positions of a lane. -/
def laneCount (l : Lane) : Nat :=
  l.pulling.toList.length + l.pre.toList.length + l.bond.toList.length + l.exit.toList.length

/-- A lane with a strip on the elevator has nothing at PRE, since a feed is granted only then (R78). -/
abbrev PreFree (l : Lane) : Prop := l.pulling.isSome = true → l.pre = none

/-- Each of the ten strip records is in the pool, at a lane position or on the purged list (R74), and a lane
with a strip on the elevator has nothing at PRE. -/
abbrev TenRecords (st : StripTracker) : Prop :=
  st.pool + st.purged.length + laneCount st.lanes.zero + laneCount st.lanes.one = 10 ∧
  PreFree st.lanes.zero ∧ PreFree st.lanes.one

/-- How many asks are deferred on a lane and for its head. -/
def laneAsks (l : Lane) : Nat :=
  l.feedAsk.toList.length + l.moveAsk.toList.length + l.unitAsk.toList.length

/-- The requests that hold a reply place: the deferred asks and the command in progress (R165). -/
def heldRequests (p : Part) : Nat :=
  laneAsks p.st.lanes.zero + laneAsks p.st.lanes.one + p.cu.inProgress.toList.length

/-- One reservation for each request that waits for its reply, at most 32 queued parcels and reservations
together, and at most 24 notices among them (R165, R167). -/
abbrev OutboundSound (p : Part) : Prop :=
  p.rp.reservations = heldRequests p ∧ outboundTotal p ≤ outboundPlaces ∧ noticeCount p ≤ noticePlaces

/-- The items of a pull window agree with the forces that it holds (R113). -/
abbrev WindowSound (w : PullWindow) : Prop :=
  w.n = w.forces.length ∧ w.n ≤ windowPlaces ∧ w.sum = (w.forces.map HeldForce.force).sum ∧
  w.fails = w.forces.countP HeldForce.fail ∧ w.min = leastForce w.forces

/-! ## The end of a store request, from the part `s` before the event to the part `t` after it -/

/-- The head request `r` has left the queue, requests handed in since (`new`) stand behind those that waited
(`rest`), and the next one begins at its first access. A BUSY store with none is READY (R58). A DRAINING store is
OFF, and its STORE_DISABLE is answered DONE unless the request was the command's own (R55). -/
def NextRequestFollows (s t : Part) (r : Request) (rest new : List Request) : Prop :=
  t.store.queue = rest ++ new ∧ t.store.done = 0 ∧ t.store.got = [] ∧
  t.store.config = s.store.config ∧ t.time = s.time ∧
  (s.store.state = .busy → t.store.state = if t.store.queue = [] then .ready else .busy) ∧
  (s.store.state = .draining →
    t.store.state = .off ∧ new = [] ∧ t.store.wb = s.store.wb ∧ t.store.wp = s.store.wp ∧
    t.cu.inProgress = none ∧
    ∀ c, s.cu.inProgress = some c →
      r.kind ≠ .mapWrite → r.kind ≠ .mapRead → (∀ x k, r.kind ≠ .recordRead x k) →
      ⟨0x11, ownStation s, c.station, c.tag, [c.code, 0, 0]⟩ ∈ t.rp.outbound)

/-- A write slot has been freed, which only a later write of the same event can have taken (R21). -/
def WriteSlotFreed (t : Part) (h slot : Side) (new : List Request) : Prop :=
  (t.bm.channels.get h).slots.get slot = none ∨ ∃ x ∈ new, x.kind = .bondWrite h slot

/-- Every context that waited on the fetch `f`, if it has not been issued since, has its lookup RESOLVED to `x`
(R41). A lookup waits in one place only (R38), which is the premise. -/
def WaitersResolve (s t : Part) (f : Fetch) (x : Resolution) : Prop :=
  ∀ h i n, ⟨.ctx h i, n⟩ ∈ f.waiters → (∀ y ∈ s.map.placeWait, y.waiter.party ≠ .ctx h i) →
    ∀ c, (t.bm.channels.get h).contexts.get i = some c → c.lookup = .resolved x

/-- The lookback of phase `ph` of the correlation slot's result has the outcome `x` (R108). With the other
lookback or the class still open, the slot goes on READING with it. With nothing open the result is composed
(R109), and while the store is BUSY its record is on the write list or in a PULL_WRITE (R110). -/
def SlotTakes (s t : Part) (ph : Phase) (x : DataPart) : Prop :=
  ∀ e r ball stitch, s.pru.slot = .reading e r ball stitch →
    let b := if ph = .ball then some x else ball
    let d := if ph = .stitch then some x else stitch
    (b = none ∨ d = none ∨ (∃ n, e.pullClass = .resolving n) → t.pru.slot = .reading e r b d) ∧
    ∀ bx dx c, b = some bx → d = some dx → e.pullClass = .settled c → s.store.state = .busy →
      let k : PullRecord :=
        { strip := e.strip, lane := e.lane, unit := e.unit, wire := e.wire, pullClass := c
          issued := e.issued, force := some ⟨r.force, r.clamped, r.mode⟩
          outcome := pullOutcome s.pru.classes r c, ball := bx, stitch := dx
          time := s.time.toNat / 60000 }
      k ∈ t.pru.writeList ∨
        ∃ w ∈ t.store.queue, w.kind = .pullWrite ∧ ∃ n, w.data = pullRecordBytes n k

/-- The completion STORE_FAULT of the request `r`, unless it is withdrawn (R69), has been delivered (R59): a write
slot is freed, the waiters of a fetch resolve STORE_FAULT and nothing is cached (R41), a lookback of the Pull Record
Unit is FAULT (R67), a map command is REFUSED with STORE, and a RECORD_READ is DONE with FAULT (R68), whose bytes are
the model's coding: outcome code 3, no presence byte (log entry 12). -/
def FaultDelivered (s t : Part) (r : Request) (new : List Request) : Prop :=
  r.withdrawn = false →
    (∀ h slot, r.kind = .bondWrite h slot → WriteSlotFreed t h slot new) ∧
    (∀ key f, r.kind = .mapFetch key → s.map.fetches.find? (fun x => x.key == key) = some f →
      t.map.slots = s.map.slots ∧ WaitersResolve s t f .storeFault) ∧
    (∀ ph k, r.kind = .bondRead ph k → SlotTakes s t ph .fault) ∧
    ∀ c, s.cu.inProgress = some c →
      (r.kind = .mapWrite ∨ r.kind = .mapRead →
        ⟨0x11, ownStation s, c.station, c.tag, [c.code, 1, 3]⟩ ∈ t.rp.outbound) ∧
      ∀ x k, r.kind = .recordRead x k →
        ⟨0x11, ownStation s, c.station, c.tag, [c.code, 0, 0, 3]⟩ ∈ t.rp.outbound

end Sys2Proof.Machine
end

