-- ==== Sys2Proof/WellFormed.lean ====
section
/-! DEFINITION. Which terms of `Instr` stand for events of the hardware. The meanings are total and run
on ill-formed terms too (log entry 3 says what they then do). -/

namespace Sys2Proof

/-- A frame as Section 10.2 lays it out: the parcel area is as long as the capacity field says. -/
abbrev Frame.wf (f : Frame) : Prop := f.area.length = f.capacity.toNat

/-- A command that the hardware can meet. Every operand but a frame's parcel area is already of its
field's width. -/
def Instr.wf : Instr → Bool
  | .frameArrival f => decide f.wf
  | .powerOnReset _ => true
  | .minuteTick => true
  | .pullExpiry => true
  | .ringWatchdogExpiry => true
  | .accessComplete => true
  | .accessTimeout => true
  | .messageSent => true
  | .characterReceived _ => true
  | .replyWindowClose => true
  | .restEnd => true

end Sys2Proof
end

