-- ==== Sys2Proof/Certificates/Slice0/Obligations.lean ====
section
/-! DEFINITION. The statements for the provers: what the commands of the block do, what they leave unchanged,
and what every step keeps. Each docstring names the rules of spec/ that a statement rests on. -/

open Sys2Proof Sys2Proof.Machine

/-! ## The machine -/

/-- Step of a state with a command at the front of its queue is that command's effect with the queue's rest.
-/
def Obligations.StepRunsTheFrontCommand : Prop :=
  ∀ (c : Instr) (cs : List Instr) (s : State),
    step { s with pending := c :: cs } = exec c { s with pending := cs }

/-- On an empty queue one millisecond of part time passes (R1). The idle tick is the model's choice: log
entry 5. -/
def Obligations.IdleStepPassesOneMillisecond : Prop :=
  ∀ s : State, s.pending = [] →
    ∃ t, step s = .next t ∧ t.part.time = s.part.time + 1 ∧ t.sram = s.sram ∧ t.pending = [] ∧
      t.part.cu = s.part.cu ∧ t.part.bm = s.part.bm ∧ t.part.st = s.part.st ∧
      t.part.rp.station = s.part.rp.station

/-- Every command answers a next state, and leaves the queue of waiting commands as it is; every command but
ACCESS_COMPLETE leaves the SRAM as it is. That the queue stays is the model's (log entry 21), and so is that a
POWER_ON_RESET keeps the SRAM, a write access under way included (log entry 23). -/
def Obligations.EveryCommandCompletes : Prop :=
  ∀ (c : Instr) (s : State), ∃ t, exec c s = .next t ∧ t.pending = s.pending ∧
    (c ≠ .accessComplete → t.sram = s.sram)

/-- POWER_ON_RESET puts every piece of state of the part at its power-on value and latches the straps as the
station number, 31 taken as 30 (Section 0.5.7, R161). While RESET is asserted both head sets hold LANE_OFF alone and
both hold lines are asserted (R131), whatever the part held before. That the SRAM keeps its bytes, a write access cut
by the reset leaving none, and that the waiting commands stay, are the model's: log entry 23. -/
def Obligations.PowerOnResetLatchesTheStraps : Prop :=
  ∀ (straps : BitVec 5) (s : State), ∃ t, exec (.powerOnReset straps) s = .next t ∧
    t.part.rp = { State.reset.part.rp with station := if straps = 31 then 30 else straps } ∧
    t.part = { State.reset.part with rp := t.part.rp } ∧
    t.part = resetEnds straps (resetAsserted s.part) ∧
    (∀ h, (resetAsserted s.part).ahu.heads.get h = { laneOff := true } ∧
      holdLine (resetAsserted s.part) h = true) ∧
    t.sram = s.sram ∧ t.pending = s.pending

/-- The values that the chapters give for after power-on reset, block by block (R1, R3, R5, R21, R29, R36, R37,
R38, R51, R57, R61, R63, R64, R71 to R76, R78, R79, R80, R97, R98, R101, R107, R110, R112, R113, R120, R121,
R129, R130, R131, R137, R138, R141, R142, R144, R147, R162, R167, R168, R170, R174, R176), and every counter 0
(R177). -/
def Obligations.PowerOnValues : Prop :=
  let p := State.reset.part
  p.time = 0 ∧
  (∀ h, (p.bm.channels.get h).on = true ∧ (p.bm.channels.get h).order = [] ∧
    (∀ i, (p.bm.channels.get h).contexts.get i = none) ∧ (p.bm.channels.get h).last = none ∧
    ∀ x, (p.bm.channels.get h).slots.get x = none) ∧
  (∀ g, p.bm.groups.get g = ⟨false, ⟨0, 0, 0, 0, 0, 16, .log⟩, ⟨0, 0, 0, 0, 0, 16, .log⟩⟩) ∧
  (∀ i, p.map.slots.get i = none) ∧ p.map.fetches = [] ∧ p.map.placeWait = [] ∧ p.map.fill = 0 ∧
  p.store.state = .off ∧ p.store.config = ⟨none, false, none, none, 0, 0, 0, 0, 0⟩ ∧
  p.store.queue = [] ∧ p.store.wb = 0 ∧ p.store.wp = 0 ∧ p.store.firstFault = none ∧
  (∀ l, (p.st.lanes.get l).config = ⟨1, 1, 0, 2047⟩ ∧ (p.st.lanes.get l).configured = false ∧
    (p.st.lanes.get l).enabled = false ∧ laneCount (p.st.lanes.get l) = 0 ∧
    laneAsks (p.st.lanes.get l) = 0 ∧ ∀ i, (p.st.lanes.get l).outMap.get i = .unknown) ∧
  p.st.purged = [] ∧ p.st.pool = 10 ∧ (∀ i, p.st.inMap.get i = .unknown) ∧
  p.st.elevator = .idle ∧ p.st.lastGranted = .one ∧ p.st.nextStrip = 0 ∧
  (∀ l, p.pru.plans.get l = ⟨0, [], [], 1, 0⟩ ∧ p.pru.sampling.get l = ⟨false, 0, 0⟩ ∧
    ∀ c, (p.pru.windows.get l).get c = ⟨[], 0, 0, none, 0, false⟩) ∧
  (∀ c, p.pru.classes.get c = ⟨0, true, true, true, true, true, 32, 0⟩) ∧
  p.pru.pulls = [] ∧ p.pru.intake = [] ∧ p.pru.slot = .empty ∧ p.pru.writeList = [] ∧
  p.ahu.alarms = [] ∧ p.ahu.nextNumber = 0 ∧
  (∀ h, p.ahu.heads.get h = { laneOff := true }) ∧ (∀ h, holdLine p h = true) ∧
  (∀ l, p.ahu.feeders.get l = { laneOff := true }) ∧
  p.pnc.settings = ⟨11, .none, false, 8⟩ ∧ p.pnc.walk = .stopped ∧ p.pnc.position = 0 ∧
  p.pnc.pass = 0 ∧ p.pnc.shift = none ∧ p.pnc.buffer = none ∧
  (∀ i, p.pnc.panels.get i =
    ⟨false, i.val + 1, none, true, 0, 0, [0, 1, 2, 3, 4, 5, 6, 7], none, false, 0, 0⟩) ∧
  (∀ i, p.pnc.poll.get i = none) ∧
  (∀ g l, (p.pnc.templates.get g).get l = ⟨List.replicate 24 0x20, []⟩) ∧
  (∀ i, p.rp.table.get i = .vacant) ∧ p.rp.outbound = [] ∧ p.rp.reservations = 0 ∧
  p.rp.up = false ∧ p.rp.watchdog = true ∧ p.rp.timeout = 20 ∧ p.rp.lastCycle = 0 ∧
  p.rp.noticeTag = 0 ∧
  p.cu.inProgress = none ∧ p.cu.select = ⟨.fails, true, true, true, false⟩ ∧
  ∀ g, ∀ x ∈ groupCounters p g, x = 0

/-! ## Whole-machine invariants -/

/-- Every step keeps the canonical form of the SRAM (log entry 1; R49). -/
def Obligations.EveryStepKeepsTheSramForm : Prop :=
  ∀ s t : State, Memory.wf s.sram → step s = .next t → Memory.wf t.sram

/-- Every step keeps the alarm list free of two entries of one kind and source (R120). -/
def Obligations.EveryStepKeepsAlarmsUnique : Prop :=
  ∀ s t : State, AlarmsUnique s.part.ahu.alarms → step s = .next t → AlarmsUnique t.part.ahu.alarms

/-- Every step keeps the ten strip records, each in one of its places (R74). -/
def Obligations.EveryStepKeepsTenStripRecords : Prop :=
  ∀ s t : State, TenRecords s.part.st → step s = .next t → TenRecords t.part.st

/-- Every step keeps one reservation for each request that waits, the total of queued parcels and reservations at
32 or less, and the notices in the queue at 24 or less (R165, R167). -/
def Obligations.EveryStepKeepsTheOutboundBound : Prop :=
  ∀ s t : State, OutboundSound s.part → step s = .next t → OutboundSound t.part

/-- The state after reset has each of the invariants. -/
def Obligations.ResetMeetsTheInvariants : Prop :=
  Memory.wf State.reset.sram ∧ AlarmsUnique State.reset.part.ahu.alarms ∧
  TenRecords State.reset.part.st ∧ OutboundSound State.reset.part

/-- The station number is held until the next power-on reset (R161). -/
def Obligations.OnlyPowerOnResetChangesTheStation : Prop :=
  ∀ (c : Instr) (s t : State), (∀ straps, c ≠ .powerOnReset straps) → exec c s = .next t →
    t.part.rp.station = s.part.rp.station

/-- Part time moves by the passing of time and by power-on reset alone: every other command keeps it, a work
restart in a frame among them (R1). -/
def Obligations.OnlyTicksAndResetChangePartTime : Prop :=
  ∀ (c : Instr) (s t : State), (∀ straps, c ≠ .powerOnReset straps) → c ≠ .minuteTick →
    exec c s = .next t → t.part.time = s.part.time

/-! ## Time and pending pulls -/

/-- MINUTE_TICK brings part time to a multiple of 60,000 and ages every pending pull by one (R1, R104). Then the
pulls that are due, their lane's deadline above 0 and reached by their age, expire from the oldest on, until none
is left or, in service, the write list holds 15 records: each leaves the list, is counted, and has PULL_EXPIRED of
its lane in the alarm list (R104, R105). With none due nothing else changes. Two pending pulls of one strip, unit
and wire do not stand together (R103), which is the premise of the clauses on single pulls. That the tick is at
the next multiple of 60,000 is the model's: log entry 6. -/
def Obligations.MinuteTickAgesEveryPendingPull : Prop :=
  ∀ s : State, ∃ t, exec .minuteTick s = .next t ∧
    (let aged := s.part.pru.pulls.map fun e => { e with age := incTo 65535 e.age }
     let deadline := fun (e : PendingPull) => (s.part.pru.plans.get e.lane).deadline
     let due := fun (e : PendingPull) => decide (0 < deadline e) && decide (deadline e ≤ e.age)
     let left := t.part.pru.pulls
     t.part.time.toNat % 60000 = 0 ∧ t.part.time = nextMinute s.part.time ∧
     t.part.cu = s.part.cu ∧ t.part.bm = s.part.bm ∧ t.part.st = s.part.st ∧
     t.part.pru.plans = s.part.pru.plans ∧ t.sram = s.sram ∧ t.pending = s.pending ∧
     ((∀ e ∈ aged, due e = false) → t.part =
       { s.part with time := nextMinute s.part.time, pru := { s.part.pru with pulls := aged } }) ∧
     ((∀ e ∈ left, due e = false) ∨
       (inService t.part = true ∧ 15 ≤ t.part.pru.writeList.length)) ∧
     (aged.Pairwise (fun x y => ¬(x.strip = y.strip ∧ x.unit = y.unit ∧ x.wire = y.wire)) →
       left.filter (fun e => !due e) = aged.filter (fun e => !due e) ∧
       left.filter due = (aged.filter due).drop (aged.length - left.length) ∧
       t.part.pru.counters.expired =
         incMany (aged.length - left.length) s.part.pru.counters.expired ∧
       ∀ e ∈ aged, e ∉ left →
         ∃ a ∈ t.part.ahu.alarms, a.kind = .pullExpired ∧ a.source = .lane e.lane))

/-- PULL_EXPIRY of the oldest pull that is due: the entry leaves the pending list, the pulls expired counter
rises, and PULL_EXPIRED of its lane is in the alarm list with its strip, unit and wire as subject (R105). That
the command stands for the oldest pull that is due, and that it changes nothing when none is due or the write
list has no place for the record, is the model's: log entry 7. -/
def Obligations.PullExpiryRemovesTheOldestDue : Prop :=
  ∀ s : State,
    (∀ e, s.part.pru.pulls.find? (isDue s.part) = some e → writesFull s.part = false →
      ∃ t, exec .pullExpiry s = .next t ∧
        t.part.pru.pulls = s.part.pru.pulls.filter (fun x => !samePull e.strip e.unit e.wire x) ∧
        t.part.pru.counters.expired = inc s.part.pru.counters.expired ∧
        (∃ a ∈ t.part.ahu.alarms, a.kind = .pullExpired ∧ a.source = .lane e.lane ∧
          a.subject = some ⟨some e.strip, some e.unit, some e.wire⟩) ∧
        t.part.time = s.part.time ∧ t.part.cu = s.part.cu ∧ t.part.bm = s.part.bm ∧
        t.part.st = s.part.st ∧ t.sram = s.sram ∧ t.pending = s.pending) ∧
    (s.part.pru.pulls.find? (isDue s.part) = none ∨ writesFull s.part = true →
      exec .pullExpiry s = .next s)

/-! ## The ring -/

/-- FRAME_ARRIVAL of a frame that is not good: it is counted and goes out, a frame that fails its check newly
marked and sealed and any other as it came; nothing else changes (R158, R159). A sealed frame passes its check
with its parcel area byte for byte, and a frame that passes its check is sealed to itself (R184). That a frame
which fails its check and carries the mark is sealed anew is the model's (log entry 15), and so is that an area
not as long as the capacity fails the check (log entry 3). -/
def Obligations.BadFramesAreNotActedOn : Prop :=
  ∀ (f : Frame) (s : State),
    (frameClass f = .damaged →
      exec (.frameArrival f) s = .next { s with part := { s.part with rp := { s.part.rp with
        counters := { s.part.rp.counters with damaged := inc s.part.rp.counters.damaged }
        forwarded := some (if checkPasses f then f else sealFrame (markDamaged f)) } } }) ∧
    (frameClass f = .malformed →
      exec (.frameArrival f) s = .next { s with part := { s.part with rp := { s.part.rp with
        counters := { s.part.rp.counters with
          malformedFrames := inc s.part.rp.counters.malformedFrames }
        forwarded := some f } } }) ∧
    (f.wf → checkPasses (sealFrame (markDamaged f)) = true ∧
      damagedMark (sealFrame (markDamaged f)) = true ∧ (sealFrame (markDamaged f)).area = f.area) ∧
    (checkPasses f = true → sealFrame f = f)

/-- FRAME_ARRIVAL of a good frame, whatever its parcels: the ring is UP, the watchdog RUNNING with the timeout
as it stood when the frame came, RING_LOST in no head set, and the cycle number is the frame's (R158, R134, R170).
Part time, the station number and the SRAM stay. What the parcels change is what the walk over the used part of
the area changes: every block but the Ring Port is as the walk leaves it (R160). That the walk runs on a part whose
good frames counter has already risen, so that a COUNTERS_READ in the frame sees the increment (R177), is the model's
choice: log entry 35. The frame that goes out passes its check and keeps its cycle number, capacity and flags. A walk that stopped early inserts nothing; after any other the
queued parcels that fit the free room stand behind the used part, the used length is raised by them, they have left
the queue and are counted, and the bytes behind them are as they came (R169, R184). A frame that nothing has changed
goes out as it came. -/
def Obligations.GoodFrameBringsTheRingUp : Prop :=
  ∀ (f : Frame) (s : State), frameClass f = .good →
    ∃ t, exec (.frameArrival f) s = .next t ∧
      t.part.rp.up = true ∧ t.part.rp.watchdog = true ∧ t.part.rp.period = s.part.rp.timeout ∧
      t.part.rp.lastCycle = f.cycle ∧ t.part.time = s.part.time ∧
      t.part.rp.station = s.part.rp.station ∧ t.sram = s.sram ∧ t.pending = s.pending ∧
      (∀ h, (ringUp s.part).ahu.heads.get h =
        { s.part.ahu.heads.get h with ringLost := false }) ∧
      (let up := ringUp s.part
       let p := setRp up { up.rp with
         lastCycle := f.cycle
         counters := { up.rp.counters with good := inc up.rp.counters.good } }
       let w := walkParcels f.used.toNat p (f.area.take f.used.toNat)
       let out := fitParcels (f.capacity.toNat - f.used.toNat) w.part.rp.outbound
       let added := (out.1.map parcelBytes).flatten
       { t.part with rp := w.part.rp } = w.part ∧
       ∃ g, t.part.rp.forwarded = some g ∧ checkPasses g = true ∧ g.cycle = f.cycle ∧
         g.capacity = f.capacity ∧ g.flags = f.flags ∧
         (w.stopped = true →
           g.used = f.used ∧ g.area = w.bytes ++ f.area.drop f.used.toNat ∧
           t.part.rp = { w.part.rp with forwarded := some g }) ∧
         (w.stopped = false →
           g.used.toNat = f.used.toNat + added.length ∧
           g.area = w.bytes ++ added ++ f.area.drop (f.used.toNat + added.length) ∧
           t.part.rp = { w.part.rp with
             forwarded := some g
             outbound := out.2
             counters := { w.part.rp.counters with
               inserted := incMany out.1.length w.part.rp.counters.inserted } }) ∧
         (w.bytes = f.area.take f.used.toNat → w.stopped = true ∨ out.1 = [] → g = f))

/-- A parcel laid out by Section 10.3 is read back by the walk, whatever follows it; the walk hands it over, puts
the parcel or a filler of its length in its place, and goes on with what follows (R160, R163). At a header whose
payload length is above 240 or passes the end of the used part the walk stops: every byte from there on stays, and
the frame is counted as malformed (R160). That a header cut short by the used length stops the walk so too, and that a
length byte above 240 does whatever the kind, EMPTY included, is the model's reading (DEDUCED): log entry 16. -/
def Obligations.WalkReadsBackAParcel : Prop :=
  (∀ (k : Nat) (p : Part) (bs : List Byte), bs ≠ [] →
    240 < byteAt bs 4 ∨ bs.length < 5 + byteAt bs 4 →
    walkParcels (k + 1) p bs =
      ⟨setRp p { p.rp with counters := { p.rp.counters with
          malformedFrames := inc p.rp.counters.malformedFrames } }, bs, true⟩) ∧
  ∀ (q : Parcel) (rest : List Byte), q.payload.length ≤ 240 →
    readParcel (parcelBytes q ++ rest) = some q ∧
    (parcelBytes q ++ rest).drop (parcelLength q) = rest ∧
    ∀ (k : Nat) (p : Part),
      (let out := handleParcel p q
       let w := walkParcels k out.1 rest
       walkParcels (k + 1) p (parcelBytes q ++ rest) =
         ⟨w.part,
          (if out.2 then parcelBytes ⟨0, ownStation p, 0, 0, List.replicate q.payload.length 0⟩
            else parcelBytes q) ++ w.bytes,
          w.stopped⟩)

/-- The walk of a frame changes no length: what it leaves is as long as what it found, so that the used length
stays (R163). -/
def Obligations.WalkKeepsTheUsedLength : Prop :=
  ∀ (k : Nat) (p : Part) (bs : List Byte), (walkParcels k p bs).bytes.length = bs.length

/-- What each parcel of a good frame meets. An EMPTY parcel is passed uncounted, whatever else it holds; one whose
payload length does not fit its kind, or whose source is 31, is passed and counted as malformed (R160). Of the others,
own returning parcels come first: whatever their kind and destination they become fillers and are counted (R163). A
request to the part from a station of the role that fits, when a reply place can be reserved and, for a COMMAND, none
is in progress, takes a reservation, is counted, becomes a filler and is handed to its block (R164); otherwise it
stays in the frame and is counted, and nothing else changes. Telemetry from a station of the role that fits stays in
the frame, is counted and is handed to its block (R166). Anything else is passed, and is counted as ignored when it is
addressed to the part or is telemetry whose source role does not fit (R163; log entry 16 for a request to another
station, which is not counted). -/
def Obligations.OwnAndUnconsumedParcels : Prop :=
  (∀ (p : Part) (q : Parcel), kindOf q.kind = .empty → handleParcel p q = (p, false)) ∧
  (∀ (p : Part) (q : Parcel), kindOf q.kind ≠ .empty →
    lengthFits (kindOf q.kind) q.payload = false ∨ q.source = 31 →
    handleParcel p q = (setRp p { p.rp with
      counters := { p.rp.counters with malformedParcels := inc p.rp.counters.malformedParcels } }, false)) ∧
  ∀ (p : Part) (q : Parcel), kindOf q.kind ≠ .empty → lengthFits (kindOf q.kind) q.payload = true →
    q.source ≠ 31 →
    (q.source = ownStation p →
      handleParcel p q =
        (setRp p { p.rp with
          counters := { p.rp.counters with ownRemoved := inc p.rp.counters.ownRemoved } }, true)) ∧
    (q.source ≠ ownStation p → isRequest (kindOf q.kind) = true → q.dest = ownStation p →
      fits p (kindOf q.kind) q.source = true →
      (32 ≤ p.rp.outbound.length + p.rp.reservations ∨
        (kindOf q.kind = .command ∧ p.cu.inProgress ≠ none)) →
      handleParcel p q =
        (setRp p { p.rp with
          counters := { p.rp.counters with notConsumed := inc p.rp.counters.notConsumed } }, false)) ∧
    (q.source ≠ ownStation p → q.dest = ownStation p →
      p.rp.outbound.length + p.rp.reservations < 32 →
      (let r := setRp p { p.rp with
         reservations := p.rp.reservations + 1
         counters := { p.rp.counters with consumed := inc p.rp.counters.consumed } }
       let a : Ask := ⟨q.source, q.tag⟩
       let role := roleOf p q.source
       (q.kind = 0x10 → q.source = 0 → p.cu.inProgress = none →
         handleParcel p q = (takeCommand r a q.payload, true)) ∧
       (∀ h, q.kind = 0x20 → role = some (.headBoard h) →
         handleParcel p q = (unitAsk r h a q.payload, true)) ∧
       (q.kind = 0x21 → role = some .indexer → handleParcel p q = (feedAsk r a q.payload, true)) ∧
       (q.kind = 0x22 → role = some .indexer → handleParcel p q = (moveAsk r a q.payload, true)) ∧
       (q.kind = 0x23 → role = some .indexer → handleParcel p q = (ejectAsk r a q.payload, true)) ∧
       (q.kind = 0x24 → role = some .pullTester →
         handleParcel p q = (workAsk r a q.payload, true)))) ∧
    (q.source ≠ ownStation p →
      (let r := setRp p { p.rp with
         counters := { p.rp.counters with snooped := inc p.rp.counters.snooped } }
       let role := roleOf p q.source
       (∀ h, role = some (.headBoard h) →
         (q.kind = 0x40 → handleParcel p q = (bondOpen r h q.payload, false)) ∧
         (q.kind = 0x41 → handleParcel p q = (bondSamples r h q.payload, false)) ∧
         (q.kind = 0x42 → handleParcel p q = (bondClose r h q.payload, false)) ∧
         (q.kind = 0x43 → handleParcel p q = (unitEnd r h q.payload, false))) ∧
       (role = some .indexer →
         (q.kind = 0x44 → handleParcel p q = (magEvent r q.payload, false)) ∧
         (q.kind = 0x45 → handleParcel p q = (stripEvent r q.payload, false))) ∧
       (role = some .pullTester → q.kind = 0x46 →
         handleParcel p q = (pullResult r q.payload, false)))) ∧
    (q.source ≠ ownStation p →
      ¬(isRequest (kindOf q.kind) = true ∧ q.dest = ownStation p ∧ fits p (kindOf q.kind) q.source = true) →
      ¬(isTelemetry (kindOf q.kind) = true ∧ fits p (kindOf q.kind) q.source = true) →
      (q.dest = ownStation p ∨ isTelemetry (kindOf q.kind) = true →
        handleParcel p q = (setRp p { p.rp with
          counters := { p.rp.counters with ignored := inc p.rp.counters.ignored } }, false)) ∧
      (q.dest ≠ ownStation p → isTelemetry (kindOf q.kind) = false → handleParcel p q = (p, false)))

/-- Insertion takes queued parcels in order while the oldest fits the free room, and stops at the first that
does not (R169). -/
def Obligations.InsertionTakesTheOldestThatFit : Prop :=
  ∀ (free : Nat) (qs : List Parcel),
    (fitParcels free qs).1 ++ (fitParcels free qs).2 = qs ∧
    ((fitParcels free qs).1.map parcelLength).sum ≤ free ∧
    ∀ q rest, (fitParcels free qs).2 = q :: rest →
      free < ((fitParcels free qs).1.map parcelLength).sum + parcelLength q

/-- A reply joins the tail of the outbound queue with the asker's station and tag, gives up its reservation,
and leaves the total of parcels and reservations as it was (R165). A notice takes the next tag; it is queued to
station 0 while fewer than 24 notices are queued and the total is below 32, and is otherwise dropped and counted
(R168). -/
def Obligations.RepliesAndNoticesAreQueued : Prop :=
  ∀ p : Part,
    (∀ (kind : Byte) (a : Ask) (pl : List Byte), 0 < p.rp.reservations → pl.length ≤ 240 →
      (giveReply p kind a pl).rp.outbound =
        p.rp.outbound ++ [⟨kind, ownStation p, a.station, a.tag, pl⟩] ∧
      (giveReply p kind a pl).rp.reservations + 1 = p.rp.reservations ∧
      outboundTotal (giveReply p kind a pl) = outboundTotal p) ∧
    ∀ (k : Nat) (x : List Byte),
      (offerNotice p k x).rp.noticeTag = p.rp.noticeTag + 1 ∧
      (noticeCount p < 24 ∧ outboundTotal p < 32 →
        (offerNotice p k x).rp.outbound =
          p.rp.outbound ++ [⟨0x12, ownStation p, 0, p.rp.noticeTag, oneByte k :: x⟩] ∧
        (offerNotice p k x).rp.counters = p.rp.counters) ∧
      (24 ≤ noticeCount p ∨ 32 ≤ outboundTotal p →
        (offerNotice p k x).rp.outbound = p.rp.outbound ∧
        (offerNotice p k x).rp.counters =
          { p.rp.counters with noticesDropped := inc p.rp.counters.noticesDropped })

/-- RING_WATCHDOG_EXPIRY of a RUNNING watchdog declares the loss: ring LOST, RING_LOST in both head sets and no
other reason changed, both hold lines asserted, a RING_LOST entry in the alarm list, the watchdog STOPPED and
the loss counted; a STOPPED watchdog does not expire again (R170, R131). -/
def Obligations.WatchdogExpiryDeclaresTheLoss : Prop :=
  ∀ s : State,
    (s.part.rp.watchdog = true →
      ∃ t, exec .ringWatchdogExpiry s = .next t ∧
        t.part.rp.up = false ∧ t.part.rp.watchdog = false ∧
        t.part.rp.counters.losses = inc s.part.rp.counters.losses ∧
        (∀ h, t.part.ahu.heads.get h = { s.part.ahu.heads.get h with ringLost := true }) ∧
        (∀ h, holdLine t.part h = true) ∧
        t.part.ahu.feeders = s.part.ahu.feeders ∧
        (∃ a ∈ t.part.ahu.alarms, a.kind = .ringLost ∧ a.source = .ring ∧ a.subject = none) ∧
        t.part.time = s.part.time ∧ t.part.cu = s.part.cu ∧ t.part.bm = s.part.bm ∧
        t.part.map = s.part.map ∧ t.part.store = s.part.store ∧ t.part.st = s.part.st ∧
        t.part.pru = s.part.pru ∧ t.sram = s.sram ∧ t.pending = s.pending) ∧
    (s.part.rp.watchdog = false → exec .ringWatchdogExpiry s = .next s)

/-! ## The record store -/

/-- ACCESS_COMPLETE with accesses of the head request left: one more access is done, a read's bytes are kept,
and nothing else of the part changes (R49, R50). The bytes that a read access delivers are those of the one or two
consecutive addresses of the access, as they stand in the SRAM, or free where the part has written nothing (log entry
1); a write delivers none. -/
def Obligations.AccessCompletionGoesToTheNextAccess : Prop :=
  (∀ (s : State) (r : Request) (rest : List Request), inProgress s.part = some (r, rest) →
    let w := if s.part.store.config.width = some .sixteen then 2 else 1
    let a := (r.addr + s.part.store.done * w) % 2 ^ 20
    accessReads s = if isWrite r then []
      else (List.range w).map fun i => (sramRead s.sram (a + i)).getD (Config.sramPowerUp (a + i))) ∧
  ∀ (s : State) (r : Request) (rest : List Request),
    s.part.store.state = .busy → s.part.store.queue = r :: rest → r.withdrawn = false →
    s.part.store.done + 1 < accessCount s.part.store.config r →
    exec .accessComplete s = .next { s with
      part := { s.part with store := { s.part.store with
        done := s.part.store.done + 1
        got := s.part.store.got ++ accessReads s } }
      sram := accessWrites s }

/-- ACCESS_COMPLETE of the last access of the head request, or of any access of it once it is withdrawn or the store
is DRAINING: the request leaves the queue, requests handed in then join behind those that waited, and the next one
begins at its first access, or the store is READY, or the drain ends with the store OFF (R55, R58, R59, R69). After
its last access the request completes with success. A BOND_WRITE has freed its write slot (R21); a good MAP_FETCH of
a valid entry has filled a slot of the cache, and its waiters have resolved with the entry, or UNMAPPED where it is
not valid (R41); a BOND_READ has given its slot the record, or LOST where it is not whole (R67, R108); a MAP_WRITE,
a MAP_READ and a RECORD_READ have their replies queued, with the entry as stored or the record if it is whole (R35,
R67, R68). Before its last access it completes with STORE_FAULT, and is counted unless it is withdrawn (log entry
20). The bytes of the replies are those of log entry 12. -/
def Obligations.LastAccessCompletesTheRequest : Prop :=
  ∀ (s : State) (r : Request) (rest : List Request), inProgress s.part = some (r, rest) →
    let last := accessCount s.part.store.config r ≤ s.part.store.done + 1
    (last ∨ r.withdrawn = true ∨ s.part.store.state = .draining) →
    ∃ t new, exec .accessComplete s = .next t ∧
      t.sram = accessWrites s ∧ t.pending = s.pending ∧
      t.part.store.firstFault = s.part.store.firstFault ∧
      NextRequestFollows s.part t.part r rest new ∧
      (¬last → FaultDelivered s.part t.part r new ∧
        (r.withdrawn = false →
          min 65535 (s.part.store.counters.faulted.toNat + 1) ≤ t.part.store.counters.faulted.toNat)) ∧
      (last → r.withdrawn = false →
        (let full := s.part.store.got ++ accessReads s
         let answered := fun (c : InProgress) (data : List Byte) =>
           (s.part.rp.outbound ++ [⟨0x11, ownStation s.part, c.station, c.tag, [c.code, 0, 0] ++ data⟩])
             <+: t.part.rp.outbound
         (∀ h slot, r.kind = .bondWrite h slot → WriteSlotFreed t.part h slot new) ∧
         (∀ key f, r.kind = .mapFetch key →
           s.part.map.fetches.find? (fun x => x.key == key) = some f → f.stale = false →
           ((entryOf full).valid = true →
             (∃ i, t.part.map.slots.get i = some ⟨key, entryOf full⟩) ∧
             WaitersResolve s.part t.part f (.entry (entryOf full))) ∧
           ((entryOf full).valid = false →
             t.part.map.slots = s.part.map.slots ∧ WaitersResolve s.part t.part f .unmapped)) ∧
         (∀ ph k, r.kind = .bondRead ph k →
           SlotTakes s.part t.part ph (if wholeFor k full then foundPart full else .lost)) ∧
         ∀ c, s.part.cu.inProgress = some c →
           (r.kind = .mapWrite → answered c []) ∧
           (r.kind = .mapRead → answered c (storedEntry full)) ∧
           ∀ x k, r.kind = .recordRead x k → full.length ≤ 32 →
             answered c (if wholeFor k full then 0 :: full else [2])))

/-- ACCESS_COMPLETE of a write changes the bytes it addresses and no other byte of the SRAM; a completed read,
and an ACCESS_COMPLETE with no access in progress, change none (R49). -/
def Obligations.AccessCompletionWritesOnlyItsBytes : Prop :=
  ∀ s : State, ∃ t, exec .accessComplete s = .next t ∧ t.pending = s.pending ∧
    (inProgress s.part = none → t.sram = s.sram) ∧
    ∀ r rest, inProgress s.part = some (r, rest) →
      (isWrite r = false → t.sram = s.sram) ∧
      (isWrite r = true →
        let a := accessAddress s.part.store.config r s.part.store.done
        let d := accessData s.part.store.config r s.part.store.done
        (∀ k, k < a ∨ a + d.length ≤ k → sramRead t.sram k = sramRead s.sram k) ∧
        (∀ i (h : i < d.length), sramRead t.sram (a + i) = some d[i]))

/-- An event of a thing that is not in progress does nothing: an access while the store is OFF or READY, a
message while none is being sent, a window while none is open, a rest while not RESTING. That such an event may
be commanded at all is the model's: log entry 8. -/
def Obligations.EventsOutOfPlaceDoNothing : Prop :=
  ∀ s : State,
    (s.part.store.state = .off ∨ s.part.store.state = .ready →
      exec .accessComplete s = .next s ∧ exec .accessTimeout s = .next s) ∧
    ((∀ t, s.part.pnc.walk ≠ .sending t) → exec .messageSent s = .next s) ∧
    ((∀ w, s.part.pnc.walk ≠ .listening w) → exec .replyWindowClose s = .next s) ∧
    (s.part.pnc.walk ≠ .resting → exec .restEnd s = .next s)

/-- ACCESS_TIMEOUT: the request leaves the queue and completes with STORE_FAULT, which is delivered, and the next
request, READY or OFF follows; the timeout is counted, the first-fault record is filled if it was empty and kept if
it was full, both heads hold for STORE_FAULT, a STORE_FAULT entry is in the alarm list, and the SRAM is as it was
(R55, R58, R60, R61). That a RECORD_READ so faulted is answered DONE with FAULT is R68's; its bytes, the outcome code 3
without a presence byte, are the model's coding: log entry 12, and so is the class code in the first-fault record. -/
def Obligations.AccessTimeoutHoldsBothHeads : Prop :=
  ∀ (s : State) (r : Request) (rest : List Request), inProgress s.part = some (r, rest) →
    ∃ t new, exec .accessTimeout s = .next t ∧
      NextRequestFollows s.part t.part r rest new ∧ FaultDelivered s.part t.part r new ∧
      t.part.store.counters.timeouts = inc s.part.store.counters.timeouts ∧
      t.part.store.firstFault = some (s.part.store.firstFault.getD
        ⟨accessAddress s.part.store.config r s.part.store.done, classCode r.kind, s.part.time⟩) ∧
      (∀ h, (t.part.ahu.heads.get h).storeFault = true) ∧
      (∃ a ∈ t.part.ahu.alarms, a.kind = .storeFault ∧ a.source = .store) ∧
      t.part.bm.groups = s.part.bm.groups ∧ t.sram = s.sram ∧ t.pending = s.pending

/-- A bond record and a pull record are as long as their layouts say, and each is whole for its own number and
for no other (R66). -/
def Obligations.RecordsAreWholeForTheirNumber : Prop :=
  ∀ (k n : BitVec 32) (c : Context) (j : Judgement) (r : PullRecord),
    (bondRecordBytes k c j).length = 24 ∧ (pullRecordBytes k r).length = 32 ∧
    (wholeFor n (bondRecordBytes k c j) = true ↔ n = k) ∧
    (wholeFor n (pullRecordBytes k r) = true ↔ n = k)

/-- A lookback handed in: FAULT out of service, NOT_YET for a number not below the next one, and otherwise
queued as a read at its position (R67). -/
def Obligations.LookbackIsDecidedAtHandIn : Prop :=
  ∀ (p : Part) (kind : ReqKind) (region : Region) (k : BitVec 32),
    (inService p = false →
      handInLookback p kind region k = (countFaulted p, some .fault)) ∧
    (inService p = true → (nextNumber p.store region).toNat ≤ k.toNat →
      (handInLookback p kind region k).2 = some .notYet ∧
      (handInLookback p kind region k).1.store.queue = p.store.queue ∧
      (handInLookback p kind region k).1.store.counters.notYet = inc p.store.counters.notYet) ∧
    (inService p = true → k.toNat < (nextNumber p.store region).toNat →
      (handInLookback p kind region k).2 = none ∧
      (handInLookback p kind region k).1.store.queue =
        p.store.queue ++ [lookbackRequest p.store.config kind region k])

/-- A bond record written at an issue takes the next bond number, occupies its write slot and joins the tail of
the store queue at its position's address (R63, R64). -/
def Obligations.BondRecordTakesTheNextNumber : Prop :=
  ∀ (p : Part) (c : Context) (j : Judgement) (slot : Side),
    (writeBondRecord p c j slot).store.wb = p.store.wb + 1 ∧
    (writeBondRecord p c j slot).store.queue = p.store.queue ++
      [{ kind := .bondWrite c.head slot
         addr := p.store.config.bondBase + 24 * (p.store.wb.toNat % p.store.config.bondCap)
         len := 24, data := bondRecordBytes p.store.wb c j }] ∧
    ((writeBondRecord p c j slot).bm.channels.get c.head).slots.get slot = some p.store.wb ∧
    (writeBondRecord p c j slot).store.wp = p.store.wp

/-- STORE_DISABLE of a BUSY store leaves it DRAINING with the oldest request alone and the first-fault record
empty (R54). Of the requests behind the oldest, each leaves the queue alone as it completes: those behind it stay
queued while its STORE_FAULT is delivered, and the next numbers stay, so that a place of the Pull Record Unit is free
only once its own request has completed. This second clause is the model's reading of R54, R59 and R108 (DEDUCED):
log entry 13. -/
def Obligations.DisablingABusyStoreDrains : Prop :=
  (∀ p : Part, p.store.state = .busy →
    (storeOff p).store.state = .draining ∧ (storeOff p).store.queue = p.store.queue.take 1 ∧
    (storeOff p).store.firstFault = none ∧ (storeOff p).store.config = p.store.config ∧
    (storeOff p).store.wb = p.store.wb ∧ (storeOff p).store.wp = p.store.wp) ∧
  ∀ (p : Part) (head r : Request) (rest : List Request),
    p.store.state = .draining → p.store.queue = head :: r :: rest →
    (drainRequest p r).store.state = .draining ∧ (drainRequest p r).store.queue = head :: rest ∧
    pullPlaces (drainRequest p r) = 2 - (head :: rest).countP isPullRequest ∧
    (drainRequest p r).store.config = p.store.config ∧
    (drainRequest p r).store.wb = p.store.wb ∧ (drainRequest p r).store.wp = p.store.wp

/-! ## Bond Monitor and map cache -/

/-- The samples of a taken block (R10): the k-th has index first index + k, and each is treated by its index
against the next expected index as it stands when it is reached. A duplicate changes nothing; a gap is marked and
the sample is then of the expected index; an expected sample below 1,024 is accepted, and one from 1,024 on
truncates the bond. Only the first sample of a block can find a gap. With a 2-byte first index and at most 8 samples
the next expected index stays at most 65,543, and the accepted count stays within the indexes taken and at most
1,024. -/
def Obligations.SampleIndexDecides : Prop :=
  (∀ (c : Context) (j : Nat) (x : Sample),
    (j < c.expected → takeSample c j x = c) ∧
    (c.expected < j → takeSample c j x =
      takeSample { c with marks := { c.marks with gapped := true }, expected := j } j x) ∧
    (j = c.expected → j ≤ 1023 →
      takeSample c j x = { acceptSample c j x with expected := j + 1 }) ∧
    (j = c.expected → 1024 ≤ j → takeSample c j x =
      { c with marks := { c.marks with truncated := true }, expected := j + 1 }) ∧
    (c.accepted ≤ min c.expected 1024 →
      (takeSample c j x).accepted ≤ min (takeSample c j x).expected 1024)) ∧
  ∀ (c : Context) (first : Nat) (xs : List Sample),
    takeBlock c first xs =
      (List.range xs.length).foldl (fun c k =>
        match xs[k]? with
        | some x => takeSample c (first + k) x
        | none => c) c ∧
    (first ≤ 65535 → xs.length ≤ 8 → c.expected ≤ 65543 →
      (takeBlock c first xs).expected ≤ 65543) ∧
    ∀ k, 0 < k → k ≤ xs.length → first + k ≤ (takeBlock c first (xs.take k)).expected

/-- What an accepted sample adds to its context, whose last-eight window holds at most 8 currents (R11). With
10-bit drive and current each sample adds at most 1,046,529 to the accumulator, so that a bond's at most 1,024
keep it at most 1,071,645,696, below 2 to the power 31. -/
def Obligations.AcceptedSampleIsAccumulated : Prop :=
  ∀ (c : Context) (j : Nat) (x : Sample), c.lastEight.length ≤ 8 →
    acceptSample c j x = { c with
      accepted := c.accepted + 1
      power := c.power + x.v * x.i
      firstEight := if j ≤ 7 then c.firstEight + x.i else c.firstEight
      lastEight := (c.lastEight.drop (c.lastEight.length - 7)) ++ [x.i]
      z0 := if c.z0 = none ∧ c.touchdown ≤ x.f then some x.z else c.z0
      lastHeight := some x.z } ∧
    (acceptSample c j x).lastEight.length ≤ 8 ∧
    (x.v ≤ 1023 → x.i ≤ 1023 → c.power ≤ 1046529 * c.accepted →
      (acceptSample c j x).power ≤ 1046529 * (acceptSample c j x).accepted ∧
      ((acceptSample c j x).accepted ≤ 1024 →
        (acceptSample c j x).power ≤ 1071645696 ∧ (acceptSample c j x).power < 2 ^ 31))

/-- The three figures of a bond and the marks that they bring (R15, R16, R17): a fresh context has A = 0 and so
Eb = 0, an absent touchdown height fails the touchdown check, and 16-bit heights and 10-bit currents bound the
deformation and the last-eight sum. -/
def Obligations.BondFiguresFollowTheRules : Prop :=
  ∀ (groups : Vector BondGroup 64) (c : Context) (r : Resolution),
    (judgement groups c r).energy = min 65535 (c.power / 4000) ∧
    (c.power = 0 → (judgement groups c r).energy = 0) ∧
    (∀ h f cfg u, (freshContext h f cfg u).power = 0 ∧ (freshContext h f cfg u).accepted = 0) ∧
    (judgement groups c r).deform =
      (match c.z0, c.lastHeight with
        | some z, some x => if x ≤ z then z - x else 0
        | _, _ => 0) ∧
    (c.z0 = none → Verdict.noContact ∈ (judgement groups c r).faults) ∧
    ((∀ z, c.z0 = some z → z ≤ 65535) → (judgement groups c r).deform ≤ 65535) ∧
    (judgement groups c r).stick =
      (if c.firstEight = 0 then 1023 else min 1023 (c.lastEight.sum * 256 / c.firstEight)) ∧
    (c.lastEight.length ≤ 8 → (∀ i ∈ c.lastEight, i ≤ 1023) → c.lastEight.sum ≤ 8184) ∧
    ((judgedMarks c r).clamped = true ↔
      c.marks.clamped = true ∨ 65535 < c.power / 4000 ∨
      (c.firstEight ≠ 0 ∧ 1023 < c.lastEight.sum * 256 / c.firstEight)) ∧
    ((judgedMarks c r).rebound = true ↔
      c.marks.rebound = true ∨ ∃ z x, c.z0 = some z ∧ c.lastHeight = some x ∧ z < x) ∧
    ((judgedMarks c r).noDrive = true ↔ c.marks.noDrive = true ∨ c.firstEight = 0)

/-- The fault set names every failing check, the verdict is the first of them in table order, and PASS when
there is none (R18). The group used is the entry's ball group for BALL and its stitch group for STITCH, and there is
none when the lookup resolved UNMAPPED or STORE_FAULT; the window is that of the phase in the group used, when that
group is valid (R14). An entry that is not valid, with which no lookup resolves (R41), counts as UNMAPPED. STORE is
marked exactly at STORE_FAULT. The fail action is the window's, and HOLD_REJECT without a window (R22). -/
def Obligations.VerdictIsTheFirstFailingCheck : Prop :=
  ∀ (groups : Vector BondGroup 64) (c : Context) (r : Resolution),
    let j := judgement groups c r
    let g := groupUsed c.phase r
    let w := windowUsed groups c.phase g
    (g = none ↔ r = .unmapped ∨ r = .storeFault ∨ ∃ e, r = .entry e ∧ e.valid = false) ∧
    (∀ e, r = .entry e → e.valid = true →
      g = some (match c.phase with | .ball => e.ball | .stitch => e.stitch)) ∧
    (∀ x, w = some x ↔ ∃ n, g = some n ∧ (groups.get n).valid = true ∧
      x = match c.phase with | .ball => (groups.get n).ball | .stitch => (groups.get n).stitch) ∧
    j.group = g ∧ j.action = (w.map PhaseWindow.action).getD .holdReject ∧
    ((judgedMarks c r).store = true ↔ c.marks.store = true ∨ r = .storeFault) ∧
    (.unmapped ∈ j.faults ↔ g = none) ∧
    (.noProgram ∈ j.faults ↔ ∃ n, g = some n ∧ (groups.get n).valid = false) ∧
    (.incomplete ∈ j.faults ↔ c.marks.gapped = true) ∧
    (.short ∈ j.faults ↔ ∃ x, w = some x ∧ c.accepted < x.minSamples) ∧
    (.noContact ∈ j.faults ↔ c.z0 = none) ∧
    (.nonStick ∈ j.faults ↔
      ∃ x, w = some x ∧ (max j.stick 256 - min j.stick 256) ≤ x.stickBand) ∧
    (.lowEnergy ∈ j.faults ↔ ∃ x, w = some x ∧ j.energy < x.energyMin) ∧
    (.highEnergy ∈ j.faults ↔ ∃ x, w = some x ∧ x.energyMax < j.energy) ∧
    (.lowDeform ∈ j.faults ↔ ∃ x, w = some x ∧ j.deform < x.deformMin) ∧
    (.highDeform ∈ j.faults ↔ ∃ x, w = some x ∧ x.deformMax < j.deform) ∧
    .pass ∉ j.faults ∧
    (j.verdict = .pass ↔ j.faults = []) ∧
    (j.verdict ≠ .pass → j.verdict ∈ j.faults ∧
      ∀ v ∈ j.faults, verdictCode j.verdict ≤ verdictCode v)

/-- A context is issued exactly when its channel is on, the oldest context is JUDGED, and the store is out of
service or a write slot is free (R19). The issue frees the context, sets the last-issue values and the counters
(R20). In service the BOND_WRITE of its record joins the queue and occupies the lowest free write slot, and out of
service neither changes (R20, R21, R63). The VERDICT notice is offered first, if the selection admits it (R25). A
failing verdict whose action is not LOG has its alarm in the list with its unit and wire and its hold reason on the
head, and any other leaves the head sets (R22). A STITCH context prefetches the next key when the store is in
service, the key is neither cached nor in flight and two fetch places are free; a BALL context leaves the map cache
(R44; said for an issue that gives no unit its final status, since pulls may start lookups of their own then). A bond
without a unit, or whose strip is no longer found, counts as outside (R23). The ACTIVE unit of the bond's strip has
its mark, one reference less and the strip's count risen, and the matching entries of the selection hold the record
number, absent out of service (R23, R24). A CLOSING unit that this leaves without references takes its final status,
and its selection entries leave the strip: dropped and counted for REJECT, else appended to the pending pulls (R87,
R101, R103; said where none of them is evicted and all name a class). Its strip is then at BOND, or at EXIT by a
deferred MOVE_ASK. -/
def Obligations.IssueNeedsItsThreeConditions : Prop :=
  ∀ (p : Part) (h : Side),
    (issueOne p h ≠ none ↔
      (p.bm.channels.get h).on = true ∧
      (∃ i rest c j, (p.bm.channels.get h).order = i :: rest ∧
        (p.bm.channels.get h).contexts.get i = some c ∧ c.state = .judged j) ∧
      (inService p = false ∨ (p.bm.channels.get h).slots.zero = none ∨
        (p.bm.channels.get h).slots.one = none)) ∧
    ∀ q i rest c j, issueOne p h = some q → (p.bm.channels.get h).order = i :: rest →
      (p.bm.channels.get h).contexts.get i = some c → c.state = .judged j → c.head = h →
      (let old := p.bm.channels.get h
       let new := q.bm.channels.get h
       let number := if inService p then some p.store.wb else none
       let slot : Side := if old.slots.zero = none then .zero else .one
       let write : List Request := if inService p then
         [{ kind := .bondWrite h slot
            addr := p.store.config.bondBase + 24 * (p.store.wb.toNat % p.store.config.bondCap)
            len := 24, data := bondRecordBytes p.store.wb c j }] else []
       let written := if inService p then writeBondRecord p c j slot else p
       let admitted := p.cu.select.verdicts = .all ∨ (p.cu.select.verdicts = .fails ∧ j.verdict ≠ .pass)
       let alarmed := j.verdict ≠ .pass ∧ j.action ≠ .log
       let kind : AlarmKind :=
         if j.verdict = .unmapped then .unmapped
         else if j.verdict = .noProgram then .noProgram else .bondFault
       let marked : UnitEntry → UnitEntry := fun e => { e with
         suspectMark := e.suspectMark || (j.verdict != .pass && j.action != .holdReject)
         rejectMark := e.rejectMark || (j.verdict != .pass && j.action == .holdReject)
         refs := e.refs - 1 }
       let counted : Strip → Strip := fun b => { b with
         passed := if j.verdict = .pass then inc b.passed else b.passed
         failed := if j.verdict = .pass then b.failed else inc b.failed }
       let key : MapKey := ⟨c.bank, if c.wire + 1 < (p.st.lanes.get h).config.wires then c.wire + 1 else 0⟩
       let fetched := c.phase = .stitch ∧ inService p = true ∧ cachedEntry p.map key = none ∧
         inFlight p.map key = false ∧ p.map.fetches.length ≤ 2
       new.contexts.get i = none ∧ (∀ k, k ≠ i → new.contexts.get k = old.contexts.get k) ∧
       new.order = old.order.filter (fun k => k != i) ∧
       new.last = some ⟨j.verdict, j.energy, j.deform⟩ ∧
       new.counters.issued = inc old.counters.issued ∧
       new.counters.failed =
         (if j.verdict = .pass then old.counters.failed else inc old.counters.failed) ∧
       q.bm.channels.get h.other = p.bm.channels.get h.other ∧ q.bm.groups = p.bm.groups ∧
       q.store.wb = (if inService p then p.store.wb + 1 else p.store.wb) ∧
       new.slots = (if inService p then old.slots.set slot (some p.store.wb) else old.slots) ∧
       (p.store.queue ++ write) <+: q.store.queue ∧
       (inService p = false → q.store.queue = p.store.queue) ∧
       (admitted → (offerNotice written 1 (verdictNotice c j number)).rp.outbound <+: q.rp.outbound) ∧
       (¬admitted → written.rp.outbound <+: q.rp.outbound) ∧
       (alarmed →
         (∃ a ∈ q.ahu.alarms, a.kind = kind ∧ a.source = .head h ∧
           a.subject = some ⟨c.unitRef.map UnitRef.strip, c.unitRef.map UnitRef.unit, some c.wire⟩) ∧
         q.ahu.heads.get h = addHeadReason kind (.head h) h (p.ahu.heads.get h)) ∧
       (¬alarmed → q.ahu.heads = p.ahu.heads) ∧
       q.ahu.heads.get h.other = p.ahu.heads.get h.other ∧
       ((∀ u x b e, c.unitRef = some u → locate p u.strip = some x → recordAt p x = some b →
           b.units[u.unit]? = some e → e.status = .closing → 1 < e.refs) →
         q.map.slots = p.map.slots ∧
         (fetched → q.map.fetches = p.map.fetches ++ [⟨key, false, []⟩] ∧
           q.store.queue = p.store.queue ++ write ++ [fetchRequest p key] ∧
           q.map.counters =
             { p.map.counters with prefetches := inc p.map.counters.prefetches }) ∧
         (¬fetched → q.map = p.map ∧ q.store.queue = p.store.queue ++ write)) ∧
       (c.unitRef = none ∨ (∃ u, c.unitRef = some u ∧ locate p u.strip = none) →
         new.counters.outsideUnit = inc old.counters.outsideUnit) ∧
       ∀ u x b e, c.unitRef = some u → locate p u.strip = some x → recordAt p x = some b →
         b.units[u.unit]? = some e →
         new.counters.outsideUnit = old.counters.outsideUnit ∧
         (e.status = .active →
           recordAt q x = some { counted b with
             units := b.units.set u.unit (marked e)
             selection := if b.sampled then
               b.selection.map fun y =>
                 if y.unit = u.unit ∧ y.wire = c.wire then
                   match c.phase with
                   | .ball => { y with ball := number }
                   | .stitch => { y with stitch := number }
                 else y
               else b.selection }) ∧
         ∀ l, x = .lane l .bond → e.status = .closing → e.refs ≤ 1 →
           (let final := finalStatus (marked e) (p.st.lanes.get b.lane).config.wires
            let taken := b.selection.filter fun y => y.unit == u.unit
            (∃ z : Position, (z = .bond ∨ (z = .exit ∧ (p.st.lanes.get l).moveAsk ≠ none)) ∧
              recordAt q (.lane l z) = some { counted b with
                units := b.units.set u.unit { marked e with status := final }
                selection := b.selection.filter fun y => y.unit != u.unit }) ∧
            (final = .reject →
              q.pru.pulls = p.pru.pulls ∧
              q.pru.counters.selDropped = incMany taken.length p.pru.counters.selDropped) ∧
            (final ≠ .reject → (∀ y ∈ taken, y.pullClass ≠ none) →
              taken.Pairwise (fun y z => y.wire ≠ z.wire) →
              (∀ y ∈ taken, ∀ z ∈ p.pru.pulls,
                ¬(z.strip = b.number ∧ z.unit = u.unit ∧ z.wire = y.wire)) →
              p.pru.pulls.length + taken.length ≤ 64 →
              q.pru.pulls = p.pru.pulls ++ taken.map fun y =>
                ⟨b.number, b.lane, y.unit, y.wire, y.ball, y.stitch, false, 0, .settled y.pullClass⟩)))

/-- BOND_OPEN and BOND_CLOSE at a channel that is on, from a head board that names its own head.
A BOND_OPEN first closes the OPEN context, GAPPED and marked as closed by open, and judges it if its lookup is
RESOLVED (R7, R14). It then takes the lowest FREE context: its fields are the parcel's, the lane configuration's and
the ACTIVE unit's, everything it counts is empty, it joins the tail of the order list, the unit has one reference
more, and its lookup is examined (R6, R39). With no FREE context left it is counted, MONITOR_OVERRUN of its head is in
the alarm list with the ACTIVE unit and the wire as subject, and that unit is SUSPECT; contexts and order list stay
(R8). A BOND_CLOSE of the OPEN context's sequence closes it, GAPPED when its total is not the next expected index, and
judges it if its lookup is RESOLVED (R12, R14). Any other is counted as stray, and marks the youngest context closed
by open that carries its sequence (R13). -/
def Obligations.OverrunRaisesAnAlarm : Prop :=
  ∀ (p : Part) (h : Side) (pl : List Byte), side? (byteAt pl 0) = some h →
    (p.bm.channels.get h).on = true →
    (let ch := p.bm.channels.get h
     let n := BitVec.ofNat 16 (word16At pl 1)
     let judged := fun (c : Context) => match c.lookup with
       | .resolved r => { c with
           state := .judged (judgement p.bm.groups c r)
           marks := judgedMarks c r }
       | .pending | .waitingForFetchPlace => c
     let closing := fun (i : Fin 4) (c : Context) => examineIssue (modContext p h i fun _ => judged c) h
     let r := closeByOpen p h
     let q := bondOpen p h pl
     let z := bondClose p h pl
     (openContext ch = none → r = p) ∧
     (∀ i c, openContext ch = some i → ch.contexts.get i = some c →
       r = closing i { c with
         state := .closed, closedByOpen := true, marks := { c.marks with gapped := true } }) ∧
     (∀ i, (r.bm.channels.get h).contexts.get i = none →
       (∀ k, k < i → (r.bm.channels.get h).contexts.get k ≠ none) →
       (let cfg := (r.st.lanes.get h).config
        let out := startLookup r ⟨cfg.bank, word16At pl 3 % 1024⟩ (.ctx h i)
        q.bm.channels.get h = { r.bm.channels.get h with
          order := (r.bm.channels.get h).order ++ [i]
          contexts := vset (r.bm.channels.get h).contexts i (some
            { head := h, sequence := n, wire := word16At pl 3 % 1024
              phase := if byteAt pl 5 % 2 = 0 then .ball else .stitch
              unitRef := activeUnit r h, bank := cfg.bank, touchdown := cfg.touchdown
              accepted := 0, expected := 0, power := 0, firstEight := 0, lastEight := []
              z0 := none, lastHeight := none
              marks := { noUnit := (activeUnit r h).isNone }
              closedByOpen := false, lookup := out.2, state := .opened }) } ∧
        q.bm.channels.get h.other = r.bm.channels.get h.other ∧
        q.map = out.1.map ∧ q.store = out.1.store ∧ q.ahu = r.ahu ∧ q.pru = r.pru ∧ q.rp = r.rp ∧
        (activeUnit r h = none → q.st = r.st) ∧
        ∀ b u e, (r.st.lanes.get h).bond = some b → activeUnit r h = some u → b.units[u.unit]? = some e →
          (q.st.lanes.get h).bond =
            some { b with units := b.units.set u.unit { e with refs := e.refs + 1 } })) ∧
     ((∀ i, (r.bm.channels.get h).contexts.get i ≠ none) →
       q.bm.channels.get h = { r.bm.channels.get h with
         counters := { (r.bm.channels.get h).counters with
           unmonitored := inc (r.bm.channels.get h).counters.unmonitored } } ∧
       (∃ a ∈ q.ahu.alarms, a.kind = .monitorOverrun ∧ a.source = .head h ∧
         a.subject = (activeUnit r h).map fun u =>
           ⟨some u.strip, some u.unit, some (word16At pl 3 % 1024)⟩) ∧
       q.store = r.store ∧ q.map = r.map ∧ q.pru = r.pru ∧
       (activeUnit r h = none → q.st = r.st) ∧
       ∀ b u e, (r.st.lanes.get h).bond = some b → activeUnit r h = some u → b.units[u.unit]? = some e →
         (q.st.lanes.get h).bond =
           some { b with units := b.units.set u.unit { e with suspectMark := true } }) ∧
     (∀ i c, openContextOf ch n = some i → ch.contexts.get i = some c →
       z = closing i { c with
         state := .closed
         marks := if word16At pl 3 = c.expected then c.marks else { c.marks with gapped := true } }) ∧
     (openContextOf ch n = none →
       (let fits := fun (i : Fin 4) => ∃ c, ch.contexts.get i = some c ∧ c.state ≠ .opened ∧
          c.closedByOpen = true ∧ c.sequence = n
        let stray := setBm p { p.bm with channels := p.bm.channels.set h { ch with
          counters := { ch.counters with strayCloses := inc ch.counters.strayCloses } } }
        ((∀ i ∈ ch.order, ¬fits i) → z = stray) ∧
        ∀ xs i ys, ch.order = xs ++ i :: ys → fits i → (∀ k ∈ ys, ¬fits k) →
          z = modContext stray h i fun c => { c with marks := { c.marks with lateClose := true } })))

/-- HEAD_CHANNEL off frees every context without issuing it, and keeps the write slots, the last-issue values
and the other channel's contexts (R26). -/
def Obligations.ChannelOffFreesItsContexts : Prop :=
  ∀ (p : Part) (h : Side), (p.bm.channels.get h).on = true →
    ((setChannel p h false).bm.channels.get h).on = false ∧
    (∀ i, ((setChannel p h false).bm.channels.get h).contexts.get i = none) ∧
    ((setChannel p h false).bm.channels.get h).order = [] ∧
    ((setChannel p h false).bm.channels.get h).slots = (p.bm.channels.get h).slots ∧
    ((setChannel p h false).bm.channels.get h).last = (p.bm.channels.get h).last ∧
    (setChannel p h false).bm.channels.get h.other = p.bm.channels.get h.other ∧
    (setChannel p h false).bm.groups = p.bm.groups

/-- The examination of a new lookup: hit, join, new fetch or place wait, by the first case that applies (R39).
-/
def Obligations.LookupTakesTheFirstCase : Prop :=
  ∀ (p : Part) (key : MapKey) (w : Waiter),
    (∀ e, cachedEntry p.map key = some e →
      (examineLookup p key w false).2 = .resolved (.entry e)) ∧
    (cachedEntry p.map key = none → inFlight p.map key = true →
      (examineLookup p key w false).2 = .pending ∧
      (examineLookup p key w false).1.store = p.store ∧
      (examineLookup p key w false).1.map.fetches = p.map.fetches.map fun f =>
        if f.key = key then { f with waiters := f.waiters ++ [w] } else f) ∧
    (cachedEntry p.map key = none → inFlight p.map key = false → p.map.fetches.length < 4 →
      inService p = true →
      (examineLookup p key w false).2 = .pending ∧
      (examineLookup p key w false).1.map.fetches = p.map.fetches ++ [⟨key, false, [w]⟩] ∧
      (examineLookup p key w false).1.store.queue = p.store.queue ++ [fetchRequest p key]) ∧
    (cachedEntry p.map key = none → inFlight p.map key = false → p.map.fetches.length < 4 →
      inService p = false →
      (examineLookup p key w false).2 = .resolved .storeFault ∧
      (examineLookup p key w false).1.map.fetches = p.map.fetches) ∧
    (cachedEntry p.map key = none → inFlight p.map key = false → 4 ≤ p.map.fetches.length →
      (examineLookup p key w false).2 = .waitingForFetchPlace ∧
      (examineLookup p key w false).1.store = p.store ∧
      ⟨key, w⟩ ∈ (examineLookup p key w false).1.map.placeWait)

/-- A wire map entry laid out by Section 10.5 is read back as it was written (R32, R183). -/
def Obligations.MapEntryReadsBack : Prop :=
  ∀ e : MapEntry, entryOf (entryBytes e) = e ∧ (entryBytes e).length = 4

/-! ## Strip Tracker -/

/-- A run of the arbiter that finds the elevator IDLE, a chosen ask, a free record and a LOADED slot grants it,
with the six effects of R81, and nothing else of the strips changes. Of two asks in arbitration the lane other than
the last granted is chosen, and with one the lane of that one (R80). In every state a lane with a strip at PULLING
or PRE has no ask in arbitration (R78, R81). -/
def Obligations.FeedGrantTakesTheLowestLoadedSlot : Prop :=
  (∀ (p : Part) (l : Side) (a : FeedAsk) (s : Fin 40), p.st.elevator = .idle →
    chosenLane p = some l → (p.st.lanes.get l).feedAsk = some a → p.st.pool ≠ 0 →
    p.st.inMap.get s = .loaded → (∀ i, i < s → p.st.inMap.get i ≠ .loaded) →
    let q := runArbiter p
    q.st.inMap = vset p.st.inMap s .pulled ∧
    q.st.pool + 1 = p.st.pool ∧ q.st.nextStrip = p.st.nextStrip + 1 ∧
    (q.st.lanes.get l).pulling = some { number := p.st.nextStrip, slot := s.val, lane := l } ∧
    q.st.elevator = .busy l p.st.nextStrip ∧ q.st.lastGranted = l ∧
    (q.st.lanes.get l).feedAsk = none ∧
    q.rp = (offerStrip (giveReply p 0x30 a.ask (oneByte s.val :: le 2 p.st.nextStrip.toNat))
      (pulledNotice l p.st.nextStrip s.val)).rp ∧
    q.st.lanes.get l.other = p.st.lanes.get l.other ∧
    q.st.purged = p.st.purged ∧ q.bm = p.bm ∧ q.store = p.store ∧ q.ahu = p.ahu) ∧
  (∀ p : Part,
    (inArbitration p .zero = true → inArbitration p .one = true →
      chosenLane p = some p.st.lastGranted.other) ∧
    (∀ l, inArbitration p l = true → inArbitration p l.other = false → chosenLane p = some l) ∧
    (inArbitration p .zero = false → inArbitration p .one = false → chosenLane p = none) ∧
    ∀ l, (p.st.lanes.get l).pulling ≠ none ∨ (p.st.lanes.get l).pre ≠ none →
      inArbitration p l = false)

/-- The final status of a CLOSING unit (R87). -/
def Obligations.FinalStatusOfAUnit : Prop :=
  ∀ (u : UnitEntry) (wires : Nat),
    (finalStatus u wires = .reject ↔ u.rejectMark = true ∨ u.wiresBonded.getD 0 < wires) ∧
    (finalStatus u wires = .suspect ↔
      u.rejectMark = false ∧ wires ≤ u.wiresBonded.getD 0 ∧ u.suspectMark = true) ∧
    (finalStatus u wires = .good ↔
      u.rejectMark = false ∧ wires ≤ u.wiresBonded.getD 0 ∧ u.suspectMark = false)

/-- A UNIT_ASK of a head that is not held, with a strip at BOND and no ACTIVE unit, makes the lowest PENDING
unit ACTIVE and grants it; with no PENDING unit it is answered STRIP_DONE (R84). -/
def Obligations.UnitAskGrantsTheLowestPending : Prop :=
  ∀ (p : Part) (h : Side) (a : Ask) (b : Strip), headHeld p h = false →
    (p.st.lanes.get h).bond = some b →
    (∀ i u, b.units[i]? = some u → u.status = .pending →
      (∀ k < i, ∀ x, b.units[k]? = some x → x.status ≠ .pending) →
      ∃ q, decideUnit p h a = some q ∧
        ((q.st.lanes.get h).bond.map fun s => s.units) =
          some (b.units.set i { u with status := .active }) ∧
        q.rp.outbound = p.rp.outbound ++ [⟨0x32, ownStation p, a.station, a.tag,
          le 2 b.number.toNat ++ [oneByte i] ++ le 2 (p.st.lanes.get h).config.wires
            ++ [oneByte (p.st.lanes.get h).config.bank.val]⟩] ∧
        q.ahu = p.ahu ∧ q.bm = p.bm ∧ q.store = p.store) ∧
    ((∀ u ∈ b.units, u.status ≠ .pending) →
      decideUnit p h a = some (denyAsk p 0x33 a .stripDone))

/-! ## Pull Record Unit -/

/-- A force that joins a pull window leaves its count, sum, minimum and fail count in agreement with the forces
held, at most 32 of them, the new one last (R113). -/
def Obligations.WindowStaysInAgreement : Prop :=
  ∀ (w : PullWindow) (force : Nat) (fail : Bool), WindowSound w →
    WindowSound (insertForce w force fail) ∧
    (insertForce w force fail).forces =
      (if w.n = 32 then w.forces.drop 1 else w.forces) ++ [⟨force, fail⟩] ∧
    (insertForce w force fail).tripped = w.tripped

/-- The outcome of a pull result: VOID by its mode, FAIL without a class, PASS with enough force and an accepted
mode, and FAIL otherwise (R109). -/
def Obligations.PullOutcomeByTheFirstCase : Prop :=
  ∀ (classes : Vector PullClass 8) (r : PullResult) (c : Fin 8),
    (r.mode = .void → pullOutcome classes r none = .void ∧ pullOutcome classes r (some c) = .void) ∧
    (r.mode ≠ .void →
      pullOutcome classes r none = .fail ∧
      (pullOutcome classes r (some c) = .pass ↔
        (classes.get c).minForce ≤ r.force ∧ accepts (classes.get c) r.mode = true) ∧
      (pullOutcome classes r (some c) ≠ .pass → pullOutcome classes r (some c) = .fail))

/-- A WORK_ASK is answered with a WORK_LIST of the first 16 entries of its strip, and changes nothing but the
ISSUED mark of those and the queue and the reservation of its reply; every other entry, and every other item of
those, stays (R106, R186). -/
def Obligations.WorkAskIssuesTheFirstSixteen : Prop :=
  (∀ (n : BitVec 16) (es : List PendingPull),
    (issuePulls n 16 es).length = es.length ∧
    ∀ i e, es[i]? = some e →
      ∃ x, (issuePulls n 16 es)[i]? = some x ∧ x = { e with issued := x.issued } ∧
        (x.issued = true ↔ e.issued = true ∨
          (e.strip = n ∧ ((es.take i).countP fun y => y.strip == n) < 16))) ∧
  ∀ (p : Part) (a : Ask) (pl : List Byte),
    (let n := BitVec.ofNat 16 (word16At pl 0)
     let listed := (p.pru.pulls.filter fun e => e.strip == n).take 16
     let class? := fun (e : PendingPull) => match e.pullClass with
       | .settled c => c
       | .resolving _ => none
     let entry := fun (e : PendingPull) =>
       [if (class? e).isSome then 1 else 0, oneByte e.unit] ++ le 2 e.wire
         ++ [oneByte (((class? e).map fun c => c.val).getD 0)]
     workAsk p a pl = { p with
       pru := { p.pru with pulls := issuePulls n 16 p.pru.pulls }
       rp := { p.rp with
         outbound := p.rp.outbound ++ [⟨0x38, ownStation p, a.station, a.tag,
           oneByte listed.length :: (listed.map entry).flatten⟩]
         reservations := p.rp.reservations - 1 } })

/-! ## Alarms and holds -/

/-- A raise either adds an entry at the tail, with the counter's number and the present time, or folds into the
entry of its kind and source, which keeps its number, place and time raised (R122). The premise is the range of
an entry's count (R120). -/
def Obligations.RaiseAddsOrCoalesces : Prop :=
  ∀ (p : Part) (k : AlarmKind) (src : AlarmSource) (x : Option Subject),
    (∀ a ∈ p.ahu.alarms, a.count ≤ 255) →
    ((∀ a ∈ p.ahu.alarms, ¬(a.kind = k ∧ a.source = src)) →
      (raiseAlarm p k src x).ahu.alarms =
        p.ahu.alarms ++ [⟨p.ahu.nextNumber, k, src, x, 1, p.time, p.time⟩] ∧
      (raiseAlarm p k src x).ahu.counters =
        { p.ahu.counters with raised := inc p.ahu.counters.raised }) ∧
    ((∃ a ∈ p.ahu.alarms, a.kind = k ∧ a.source = src) →
      (raiseAlarm p k src x).ahu.alarms = p.ahu.alarms.map (fun a =>
        if a.kind = k ∧ a.source = src then
          { a with count := min 255 (a.count + 1), subject := x, lastRaised := p.time }
        else a) ∧
      (raiseAlarm p k src x).ahu.nextNumber = p.ahu.nextNumber ∧
      (raiseAlarm p k src x).ahu.counters =
        { p.ahu.counters with coalesced := inc p.ahu.counters.coalesced }) ∧
    (∀ a ∈ (raiseAlarm p k src x).ahu.alarms, a.count ≤ 255)

/-- An acknowledgement of a number that no entry carries is refused; one of an entry's number, with no feed ask
waiting, takes out that entry, and removes its hold reason from the sets that R123 names (R124). -/
def Obligations.AcknowledgementReleasesItsHold : Prop :=
  ∀ (p : Part) (n : BitVec 16),
    ((∀ a ∈ p.ahu.alarms, a.number ≠ n) → ackAlarm p n = none) ∧
    (∀ a, p.ahu.alarms.find? (fun a => a.number == n) = some a →
      (p.st.lanes.get .zero).feedAsk = none → (p.st.lanes.get .one).feedAsk = none →
      ∃ q, ackAlarm p n = some q ∧
        q.ahu.alarms = p.ahu.alarms.filter (fun b => b.number != n) ∧
        (∀ h, q.ahu.heads.get h = dropHeadReason a.kind a.source h (p.ahu.heads.get h)) ∧
        (∀ l, q.ahu.feeders.get l = dropFeederReason a.kind a.source l (p.ahu.feeders.get l)) ∧
        q.time = p.time ∧ q.bm = p.bm ∧ q.store = p.store ∧ q.cu = p.cu)

/-! ## Panels -/

/-- MESSAGE_SENT after the POLL of a turn that is not cut opens the reply window with the timeout and settings of
the moment, and nothing else changes (R138, R141). -/
def Obligations.PollOpensTheReplyWindow : Prop :=
  ∀ (s : State) (t : Turn), s.part.pnc.walk = .sending t → t.message = .poll → t.cut = false →
    exec .messageSent s = .next { s with part := { s.part with pnc := { s.part.pnc with
      walk := .listening
        ⟨t.panel, [], s.part.pnc.settings.timeout, s.part.pnc.settings, false⟩
      shift := none, buffer := none, rest := [] } } }

/-- MESSAGE_SENT after a LINE or BEEP of a turn that is not cut starts the next message to the same panel (R145):
a LINE exactly when fewer than two have been sent, no BEEP has, and the panel has a dirty line, and it is then
counted; a BEEP exactly after the last LINE with the panel's pending BEEP set, which is then cleared; otherwise
the POLL. So a turn of at most two LINEs stays one. Only the Panel Controller changes. -/
def Obligations.TurnSendsAtMostTwoLines : Prop :=
  ∀ (s : State) (t : Turn), s.part.pnc.walk = .sending t → t.cut = false → t.message ≠ .poll →
    ∃ u n, exec .messageSent s = .next u ∧ u.part.pnc.walk = .sending n ∧ n.panel = t.panel ∧
      n.cut = false ∧
      (let x := s.part.pnc.panels.get t.panel
       let y := u.part.pnc.panels.get t.panel
       let another := t.message = .line ∧ t.lines < 2 ∧ x.dirty ≠ []
       (n.message = .line ↔ another) ∧
       (n.message = .beep ↔ t.message = .line ∧ ¬another ∧ x.beep = true) ∧
       n.lines = (if n.message = .line then t.lines + 1 else t.lines) ∧
       (t.lines ≤ 2 → n.lines ≤ 2) ∧
       y.dirty = (if n.message = .line then x.dirty.drop 1 else x.dirty) ∧
       y.beep = (x.beep && decide (n.message ≠ .beep))) ∧
      u = { s with part := { s.part with pnc := u.part.pnc } }

/-- CHARACTER_RECEIVED: the character joins an open window with its two error marks, whatever they are; with no
window open it is a stray and is counted (R139). The marks follow the line settings, and for a character that began
before one or more PANEL_CONFIG of the line form the settings under which it began, which each such command keeps
(R143). That the command carries how many there were and the levels of the bits, and that the settings kept are
forgotten once it has come, is the model's: log entry 26. -/
def Obligations.ReceivedCharacterIsKeptOrStray : Prop :=
  ∀ (s : State) (x : RxChar),
    let line := (s.part.pnc.settings :: s.part.pnc.prior).getD
      (min x.formsSince s.part.pnc.prior.length) s.part.pnc.settings
    let framing := !x.stop1 || (line.twoStops && !x.stop2)
    let ones := ((List.range 8).countP fun i => x.data.getLsbD i) + (if x.addr then 1 else 0)
      + (if x.parity then 1 else 0)
    let parity := match line.parity with
      | .none => false
      | .even => ones % 2 == 1
      | .odd => ones % 2 == 0
    (∀ w, s.part.pnc.walk = .listening w →
      exec (.characterReceived x) s = .next { s with part := { s.part with pnc := { s.part.pnc with
        walk := .listening { w with
          chars := w.chars ++ [⟨⟨x.data, x.addr⟩, framing, parity⟩] }
        prior := [] } } }) ∧
    ((∀ w, s.part.pnc.walk ≠ .listening w) →
      exec (.characterReceived x) s = .next { s with part := { s.part with pnc := { s.part.pnc with
        strays := inc s.part.pnc.strays
        prior := [] } } }) ∧
    ∀ a b, configLine (configLine s.part a) b = { s.part with pnc := { s.part.pnc with
      settings := b, prior := a :: s.part.pnc.settings :: s.part.pnc.prior } }

/-- The judgement of a reply: silent, valid with its keys, or discarded (R141). -/
def Obligations.ReplyIsJudgedByItsCharacters : Prop :=
  ∀ cs : List RxMarked,
    (judgeReply cs = .silent ↔ cs = []) ∧
    (∀ keys, judgeReply cs = .valid keys ↔
      ∃ x xs, cs = x :: xs ∧ x.char.data.toNat ≤ 4 ∧ xs.length = x.char.data.toNat ∧
        (∀ y ∈ cs, y.framing = false ∧ y.parity = false ∧ y.char.addr = false) ∧
        keys = xs.map fun y => y.char.data)

/-- REPLY_WINDOW_CLOSE (R146). A silent or a discarded reply is a miss: it is counted, and a discarded one as an
error too; a third miss in a row makes a PRESENT panel ABSENT and raises PANEL_ABSENT, and an ABSENT panel's misses
stay. A valid reply clears the misses, makes an ABSENT panel PRESENT with all its lines dirty, and takes the
panel's PANEL_ABSENT entry out of the list; then its keys act one after another, unless a work restart has come
(R152, R156). Then the turn ends. -/
def Obligations.SilentWindowIsAMiss : Prop :=
  ∀ (s : State) (w : ReplyWindow), s.part.pnc.walk = .listening w →
    (judgeReply w.chars = .silent ∨ judgeReply w.chars = .discarded →
      ∃ t, exec .replyWindowClose s = .next t ∧
        (let x := s.part.pnc.panels.get w.panel
         let y := t.part.pnc.panels.get w.panel
         y.missesCount = inc x.missesCount ∧
         y.errorsCount = (if w.chars = [] then x.errorsCount else inc x.errorsCount) ∧
         y.misses = (if x.present then x.misses + 1 else x.misses) ∧
         y.present = (x.present && decide (x.misses + 1 < 3)) ∧
         (x.present = true → 3 ≤ x.misses + 1 →
           ∃ a ∈ t.part.ahu.alarms, a.kind = .panelAbsent ∧ a.source = .panel w.panel)) ∧
        (∀ v, t.part.pnc.walk = .listening v → False) ∧
        t.part.ahu.heads = s.part.ahu.heads ∧ t.part.time = s.part.time ∧ t.part.cu = s.part.cu ∧
        t.part.bm = s.part.bm ∧ t.part.map = s.part.map ∧ t.part.store = s.part.store ∧
        t.part.st = s.part.st ∧ t.part.pru = s.part.pru ∧ t.sram = s.sram ∧
        t.pending = s.pending) ∧
    ∀ keys, judgeReply w.chars = .valid keys →
      ∃ a : Part,
        exec .replyWindowClose s = .next { s with
          part := endTurn (if w.dropKeys then a else keys.foldl (fun p k => keyEffect w.panel k p) a) } ∧
        a = { s.part with rp := a.rp, ahu := a.ahu, pnc := a.pnc } ∧
        (let x := s.part.pnc.panels.get w.panel
         let y := a.pnc.panels.get w.panel
         y.present = true ∧ y.misses = 0 ∧ y.page = x.page ∧ y.errorsCount = x.errorsCount ∧
         y.missesCount = x.missesCount ∧ (x.present = false → y.dirty = allLines) ∧
         (∀ l ∈ x.dirty, l ∈ allLines → l ∈ y.dirty) ∧
         a.ahu.heads = s.part.ahu.heads ∧ a.ahu.feeders = s.part.ahu.feeders ∧
         (AlarmsUnique s.part.ahu.alarms → (s.part.ahu.alarms.map Alarm.number).Nodup →
           a.ahu.alarms = s.part.ahu.alarms.filter fun b =>
             !(b.kind == .panelAbsent && b.source == .panel w.panel)))

/-- REST_END of a resting controller goes on from the entry at its position: the panel there, if it gets a turn,
is sent to. Only the Panel Controller changes (R144). That the command may come outside RESTING, and then changes
nothing, is the model's: log entry 8. -/
def Obligations.RestEndResumesTheWalk : Prop :=
  ∀ s : State, ∃ t, exec .restEnd s = .next t ∧
    t = { s with part := { s.part with pnc := t.part.pnc } } ∧
    (s.part.pnc.walk ≠ .resting → t = s) ∧
    (∀ i, s.part.pnc.walk = .resting → turnAt s.part.pnc = some i →
      ∃ n, t.part.pnc.walk = .sending n ∧ n.panel = i ∧ t.part.pnc.position = s.part.pnc.position)

/-- The walk never stalls: with a servable entry it comes to a turn of an enabled panel or to a rest within one
event (R144). A turn that begins has sent no LINE but the one it begins with (R145). -/
def Obligations.WalkComesToATurnOrARest : Prop :=
  ∀ p : Part, anyServable p.pnc = true →
    (∃ t, (walkOn p).pnc.walk = .sending t ∧ ((walkOn p).pnc.panels.get t.panel).enabled = true ∧
      t.cut = false ∧ t.lines = if t.message = .line then 1 else 0) ∨
    (walkOn p).pnc.walk = .resting

/-- PAGE turns to the next page, 3 to 0, and marks every line; UP and DOWN move the selection to the next older
and next newer entry on any page and mark lines 1 to 7 if the page is 1; they cannot act at the ends of the
list or with the selection absent. The three act on the panel's own view: they change neither another panel nor
another block (R153). ACK alone requires the alarms page, and a selection, and then acknowledges it (R154). That an
acknowledgement which the Alarm and Hold Unit refuses sets the pending BEEP and is not counted among the keys refused
is the model's: log entry 18. -/
def Obligations.ViewKeysActOnThePanel : Prop :=
  ∀ (p : Part) (i : Fin 4),
    let x := p.pnc.panels.get i
    let up := (keyEffect i 0x11 p).pnc.panels.get i
    let down := (keyEffect i 0x12 p).pnc.panels.get i
    ((keyEffect i 0x10 p).pnc.panels.get i).page = x.page + 1 ∧
    ((keyEffect i 0x10 p).pnc.panels.get i).dirty = allLines ∧
    (∀ k : Byte, k = 0x10 ∨ k = 0x11 ∨ k = 0x12 →
      keyEffect i k p = { p with pnc := (keyEffect i k p).pnc } ∧
      ∀ j, j ≠ i → (keyEffect i k p).pnc.panels.get j = p.pnc.panels.get j) ∧
    (x.selection = none →
      keyEffect i 0x11 p = refuseKey p i ∧ keyEffect i 0x12 p = refuseKey p i ∧
      keyEffect i 0x13 p = refuseKey p i) ∧
    (x.page ≠ 1 → keyEffect i 0x13 p = refuseKey p i) ∧
    (∀ n, x.page = 1 → x.selection = some n →
      keyEffect i 0x13 p = (ackAlarm p n).getD (setBeep (refuseAck p) i)) ∧
    ∀ (as : List Alarm) (a : Alarm) (bs : List Alarm), p.ahu.alarms = as ++ a :: bs →
      (p.ahu.alarms.map Alarm.number).Nodup → x.selection = some a.number →
      (as = [] → keyEffect i 0x11 p = refuseKey p i) ∧
      (bs = [] → keyEffect i 0x12 p = refuseKey p i) ∧
      (∀ xs o, as = xs ++ [o] → up.selection = some o.number ∧ up.page = x.page ∧
        (x.page = 1 → ∀ l : Fin 8, l ≠ 0 → l ∈ up.dirty) ∧ (x.page ≠ 1 → up.dirty = x.dirty)) ∧
      (∀ o xs, bs = o :: xs → down.selection = some o.number ∧ down.page = x.page ∧
        (x.page = 1 → ∀ l : Fin 8, l ≠ 0 → l ∈ down.dirty) ∧ (x.page ≠ 1 → down.dirty = x.dirty))

/-! ## Commands -/

/-- PROGRAM_READ answers with the group whole when its number is at most 63, valid or not, and is refused with
ARGUMENT otherwise; it changes nothing but the reply it gives (R31). -/
def Obligations.ProgramReadAnswersTheGroup : Prop :=
  ∀ (p : Part) (g : Byte),
    (∀ h : g.toNat < 64, runRow p .programRead [g] =
      replyDone p (let x := p.bm.groups.get ⟨g.toNat, h⟩
        boolByte x.valid :: (windowBytes x.ball ++ windowBytes x.stitch))) ∧
    (64 ≤ g.toNat → runRow p .programRead [g] = replyRefused p .argument)

/-- A COMMAND of an unknown code or form is answered REFUSED with ARGUMENT, with its own code, and is counted
(R181, R182). -/
def Obligations.UnknownCommandIsRefused : Prop :=
  ∀ (p : Part) (a : Ask) (pl : List Byte), commandRow (byteAt pl 0) (byteAt pl 1) = none →
    (takeCommand p a pl).rp.outbound =
      p.rp.outbound ++ [⟨0x11, ownStation p, a.station, a.tag, [pl.getD 0 0, 1, 1]⟩] ∧
    (takeCommand p a pl).cu = { p.cu with inProgress := none, refused := inc p.cu.refused } ∧
    (takeCommand p a pl).bm = p.bm ∧ (takeCommand p a pl).map = p.map ∧
    (takeCommand p a pl).time = p.time ∧ (takeCommand p a pl).store = p.store ∧
    (takeCommand p a pl).st = p.st ∧ (takeCommand p a pl).pru = p.pru ∧
    (takeCommand p a pl).ahu = p.ahu ∧ (takeCommand p a pl).pnc = p.pnc

/-- RESTART (R179). In the outbound queue the replies that waited stay, the ABANDONED replies follow in the order
of R96, and then its own reply. The contexts, the lookups, the cached entries, the strip records, slot maps and
elevator, the pending pulls, intake, slot, windows and sampling states, the alarms and the hold sets are emptied or
reset, and the enabled panels have every line to send (R3, R45, R96, R118, R129, R130, R136, R156). The store keeps
its state, configuration and numbers, and its queue but for the withdrawn lookbacks, of which only one that is the
head stays (R69). The plans, classes, bond groups, lane configurations, notice selection, station table, ring state
and part time stay. That the kept write list is handed in once the reply has been queued, as far as places are free,
with the notices of those hand-ins behind the reply, is the model's: log entry 19. -/
def Obligations.RestartRepliesInOrder : Prop :=
  ∀ (p : Part) (c : InProgress), p.cu.inProgress = some c →
    let q := runRow p .restart []
    let zero := p.st.lanes.zero
    let one := p.st.lanes.one
    let deny (kind : Byte) (x : Option Ask) : List Parcel :=
      x.toList.map fun a => ⟨kind, ownStation p, a.station, a.tag, [5]⟩
    let kept : List Request :=
      (p.store.queue.take 1).map (fun r => if isBondRead r then { r with withdrawn := true } else r)
        ++ (p.store.queue.drop 1).filter fun r => !isBondRead r
    let n := if inService p then
      min p.pru.writeList.length (2 - kept.countP isPullRequest) else 0
    (∃ notices : List Parcel,
      q.rp.outbound = p.rp.outbound.filter (fun x => !isNotice x)
        ++ deny 0x31 (zero.feedAsk.map FeedAsk.ask) ++ deny 0x31 (one.feedAsk.map FeedAsk.ask)
        ++ deny 0x33 zero.unitAsk ++ deny 0x33 one.unitAsk
        ++ deny 0x35 zero.moveAsk ++ deny 0x35 one.moveAsk
        ++ [⟨0x11, ownStation p, c.station, c.tag, [c.code, 0, 0]⟩] ++ notices ∧
      (∀ x ∈ notices, isNotice x = true) ∧ (n = 0 → notices = [])) ∧
    (∀ h, (q.bm.channels.get h).order = [] ∧ (∀ i, (q.bm.channels.get h).contexts.get i = none) ∧
      (q.bm.channels.get h).slots = (p.bm.channels.get h).slots ∧
      (q.bm.channels.get h).last = (p.bm.channels.get h).last) ∧
    (∀ i, q.map.slots.get i = none) ∧ q.map.placeWait = [] ∧
    (∀ f ∈ q.map.fetches, f.stale = true ∧ f.waiters = []) ∧
    q.map.fetches.map Fetch.key = p.map.fetches.map Fetch.key ∧
    q.store.queue.take kept.length = kept ∧ q.store.queue.length = kept.length + n ∧
    q.store.state = (if p.store.state = .ready ∧ 0 < n then .busy else p.store.state) ∧
    q.store.config = p.store.config ∧ q.store.firstFault = p.store.firstFault ∧
    q.store.wb = p.store.wb ∧ q.store.wp = p.store.wp + BitVec.ofNat 32 n ∧
    q.pru.writeList = p.pru.writeList.drop n ∧
    q.st.pool = 10 ∧ q.st.purged = [] ∧ q.st.elevator = .idle ∧ q.st.nextStrip = p.st.nextStrip ∧
    q.st.lastGranted = p.st.lastGranted ∧ (∀ i, q.st.inMap.get i = .unknown) ∧
    (∀ l, (q.st.lanes.get l).config = (p.st.lanes.get l).config ∧
      (q.st.lanes.get l).configured = (p.st.lanes.get l).configured ∧
      (q.st.lanes.get l).enabled = false ∧ laneCount (q.st.lanes.get l) = 0 ∧
      laneAsks (q.st.lanes.get l) = 0 ∧ ∀ i, (q.st.lanes.get l).outMap.get i = .unknown) ∧
    q.pru.pulls = [] ∧ q.pru.intake = [] ∧ q.pru.slot = .empty ∧ q.pru.plans = p.pru.plans ∧
    q.pru.classes = p.pru.classes ∧
    (∀ l, q.pru.sampling.get l = ⟨false, 0, 0⟩ ∧
      ∀ k, (q.pru.windows.get l).get k = ⟨[], 0, 0, none, 0, false⟩) ∧
    q.ahu.alarms = [] ∧ q.ahu.nextNumber = p.ahu.nextNumber ∧
    (∀ h, q.ahu.heads.get h =
      { laneOff := true, ringLost := (p.ahu.heads.get h).ringLost }) ∧
    (∀ l, q.ahu.feeders.get l = { laneOff := true }) ∧
    (∀ i, q.pnc.panels.get i =
      if (p.pnc.panels.get i).enabled then
        { p.pnc.panels.get i with dirty := allLines, beep := false, selection := none }
      else p.pnc.panels.get i) ∧
    (∀ w, q.pnc.walk = .listening w → w.dropKeys = true) ∧
    ({ q.pnc with panels := p.pnc.panels, walk := p.pnc.walk } = p.pnc) ∧
    q.time = p.time ∧ q.bm.groups = p.bm.groups ∧ q.cu.select = p.cu.select ∧
    q.rp.table = p.rp.table ∧ q.rp.up = p.rp.up ∧ q.rp.timeout = p.rp.timeout

/-- STATION_SET of a station 1 to 30 other than the part's own replaces that station's entry alone, with each of
the five roles, and with either head for a head board; the head byte of any other role is not read. Of any other
station, of a role byte above 4, and of a head board of a head above 1, it is refused with ARGUMENT (R162). In its
ring form it sets the ring timeout of 1 to 255 ms, which a RUNNING watchdog does not take up, and refuses 0
(R171). -/
def Obligations.StationSetReplacesOneEntry : Prop :=
  (∀ (p : Part) (n : Byte) (i : Fin 30), n.toNat = i.val + 1 →
    (n.toNat ≠ p.rp.station.toNat →
      ∀ (r h : Byte) (role : Role),
        ((r = 0 ∧ role = .vacant) ∨ (r = 1 ∧ h = 0 ∧ role = .headBoard .zero) ∨
          (r = 1 ∧ h = 1 ∧ role = .headBoard .one) ∨ (r = 2 ∧ role = .indexer) ∨
          (r = 3 ∧ role = .pullTester) ∨ (r = 4 ∧ role = .other)) →
        runRow p .stationSet [n, r, h] =
          replyDone (setRp p { p.rp with table := vset p.rp.table i role }) []) ∧
    (n.toNat = p.rp.station.toNat → ∀ r h, runRow p .stationSet [n, r, h] = replyRefused p .argument)) ∧
  (∀ (p : Part) (n r h : Byte), n = 0 ∨ 30 < n.toNat ∨ 4 < r.toNat ∨ (r = 1 ∧ 1 < h.toNat) →
    runRow p .stationSet [n, r, h] = replyRefused p .argument) ∧
  (∀ (p : Part) (x : Byte), runRow p .stationSetRing [x] =
    if x = 0 then replyRefused p .argument
    else replyDone (setRp p { p.rp with timeout := x.toNat }) [])
end

