-- ==== Sys2Proof/Laws/State.lean ====
section
/-! SUPPORT. One lemma for each field and each update of one block of the part, and the small lemmas of pairs
and tables. -/

namespace Sys2Proof

@[simp] theorem Two.get_set_same {α : Type} (t : Two α) (h : Side) (x : α) : (t.set h x).get h = x := by
  cases h <;> rfl

@[simp] theorem Two.get_set_other {α : Type} (t : Two α) (h : Side) (x : α) :
    (t.set h x).get h.other = t.get h.other := by
  cases h <;> rfl

@[simp] theorem Two.get_both {α : Type} (x : α) (h : Side) : (Two.both x).get h = x := by
  cases h <;> rfl

end Sys2Proof

namespace Sys2Proof.Machine

/-! ## Blocks of the part -/

@[simp] theorem setTime_time (p : Part) (x : BitVec 32) : (setTime p x).time = x := rfl
@[simp] theorem setTime_rp (p : Part) (x : BitVec 32) : (setTime p x).rp = p.rp := rfl
@[simp] theorem setTime_cu (p : Part) (x : BitVec 32) : (setTime p x).cu = p.cu := rfl
@[simp] theorem setTime_bm (p : Part) (x : BitVec 32) : (setTime p x).bm = p.bm := rfl
@[simp] theorem setTime_map (p : Part) (x : BitVec 32) : (setTime p x).map = p.map := rfl
@[simp] theorem setTime_store (p : Part) (x : BitVec 32) : (setTime p x).store = p.store := rfl
@[simp] theorem setTime_st (p : Part) (x : BitVec 32) : (setTime p x).st = p.st := rfl
@[simp] theorem setTime_pru (p : Part) (x : BitVec 32) : (setTime p x).pru = p.pru := rfl
@[simp] theorem setTime_ahu (p : Part) (x : BitVec 32) : (setTime p x).ahu = p.ahu := rfl
@[simp] theorem setTime_pnc (p : Part) (x : BitVec 32) : (setTime p x).pnc = p.pnc := rfl
@[simp] theorem setRp_time (p : Part) (x : RingPort) : (setRp p x).time = p.time := rfl
@[simp] theorem setRp_rp (p : Part) (x : RingPort) : (setRp p x).rp = x := rfl
@[simp] theorem setRp_cu (p : Part) (x : RingPort) : (setRp p x).cu = p.cu := rfl
@[simp] theorem setRp_bm (p : Part) (x : RingPort) : (setRp p x).bm = p.bm := rfl
@[simp] theorem setRp_map (p : Part) (x : RingPort) : (setRp p x).map = p.map := rfl
@[simp] theorem setRp_store (p : Part) (x : RingPort) : (setRp p x).store = p.store := rfl
@[simp] theorem setRp_st (p : Part) (x : RingPort) : (setRp p x).st = p.st := rfl
@[simp] theorem setRp_pru (p : Part) (x : RingPort) : (setRp p x).pru = p.pru := rfl
@[simp] theorem setRp_ahu (p : Part) (x : RingPort) : (setRp p x).ahu = p.ahu := rfl
@[simp] theorem setRp_pnc (p : Part) (x : RingPort) : (setRp p x).pnc = p.pnc := rfl
@[simp] theorem setCu_time (p : Part) (x : CommandUnit) : (setCu p x).time = p.time := rfl
@[simp] theorem setCu_rp (p : Part) (x : CommandUnit) : (setCu p x).rp = p.rp := rfl
@[simp] theorem setCu_cu (p : Part) (x : CommandUnit) : (setCu p x).cu = x := rfl
@[simp] theorem setCu_bm (p : Part) (x : CommandUnit) : (setCu p x).bm = p.bm := rfl
@[simp] theorem setCu_map (p : Part) (x : CommandUnit) : (setCu p x).map = p.map := rfl
@[simp] theorem setCu_store (p : Part) (x : CommandUnit) : (setCu p x).store = p.store := rfl
@[simp] theorem setCu_st (p : Part) (x : CommandUnit) : (setCu p x).st = p.st := rfl
@[simp] theorem setCu_pru (p : Part) (x : CommandUnit) : (setCu p x).pru = p.pru := rfl
@[simp] theorem setCu_ahu (p : Part) (x : CommandUnit) : (setCu p x).ahu = p.ahu := rfl
@[simp] theorem setCu_pnc (p : Part) (x : CommandUnit) : (setCu p x).pnc = p.pnc := rfl
@[simp] theorem setBm_time (p : Part) (x : BondMonitor) : (setBm p x).time = p.time := rfl
@[simp] theorem setBm_rp (p : Part) (x : BondMonitor) : (setBm p x).rp = p.rp := rfl
@[simp] theorem setBm_cu (p : Part) (x : BondMonitor) : (setBm p x).cu = p.cu := rfl
@[simp] theorem setBm_bm (p : Part) (x : BondMonitor) : (setBm p x).bm = x := rfl
@[simp] theorem setBm_map (p : Part) (x : BondMonitor) : (setBm p x).map = p.map := rfl
@[simp] theorem setBm_store (p : Part) (x : BondMonitor) : (setBm p x).store = p.store := rfl
@[simp] theorem setBm_st (p : Part) (x : BondMonitor) : (setBm p x).st = p.st := rfl
@[simp] theorem setBm_pru (p : Part) (x : BondMonitor) : (setBm p x).pru = p.pru := rfl
@[simp] theorem setBm_ahu (p : Part) (x : BondMonitor) : (setBm p x).ahu = p.ahu := rfl
@[simp] theorem setBm_pnc (p : Part) (x : BondMonitor) : (setBm p x).pnc = p.pnc := rfl
@[simp] theorem setMap_time (p : Part) (x : MapCache) : (setMap p x).time = p.time := rfl
@[simp] theorem setMap_rp (p : Part) (x : MapCache) : (setMap p x).rp = p.rp := rfl
@[simp] theorem setMap_cu (p : Part) (x : MapCache) : (setMap p x).cu = p.cu := rfl
@[simp] theorem setMap_bm (p : Part) (x : MapCache) : (setMap p x).bm = p.bm := rfl
@[simp] theorem setMap_map (p : Part) (x : MapCache) : (setMap p x).map = x := rfl
@[simp] theorem setMap_store (p : Part) (x : MapCache) : (setMap p x).store = p.store := rfl
@[simp] theorem setMap_st (p : Part) (x : MapCache) : (setMap p x).st = p.st := rfl
@[simp] theorem setMap_pru (p : Part) (x : MapCache) : (setMap p x).pru = p.pru := rfl
@[simp] theorem setMap_ahu (p : Part) (x : MapCache) : (setMap p x).ahu = p.ahu := rfl
@[simp] theorem setMap_pnc (p : Part) (x : MapCache) : (setMap p x).pnc = p.pnc := rfl
@[simp] theorem setStore_time (p : Part) (x : RecordStore) : (setStore p x).time = p.time := rfl
@[simp] theorem setStore_rp (p : Part) (x : RecordStore) : (setStore p x).rp = p.rp := rfl
@[simp] theorem setStore_cu (p : Part) (x : RecordStore) : (setStore p x).cu = p.cu := rfl
@[simp] theorem setStore_bm (p : Part) (x : RecordStore) : (setStore p x).bm = p.bm := rfl
@[simp] theorem setStore_map (p : Part) (x : RecordStore) : (setStore p x).map = p.map := rfl
@[simp] theorem setStore_store (p : Part) (x : RecordStore) : (setStore p x).store = x := rfl
@[simp] theorem setStore_st (p : Part) (x : RecordStore) : (setStore p x).st = p.st := rfl
@[simp] theorem setStore_pru (p : Part) (x : RecordStore) : (setStore p x).pru = p.pru := rfl
@[simp] theorem setStore_ahu (p : Part) (x : RecordStore) : (setStore p x).ahu = p.ahu := rfl
@[simp] theorem setStore_pnc (p : Part) (x : RecordStore) : (setStore p x).pnc = p.pnc := rfl
@[simp] theorem setSt_time (p : Part) (x : StripTracker) : (setSt p x).time = p.time := rfl
@[simp] theorem setSt_rp (p : Part) (x : StripTracker) : (setSt p x).rp = p.rp := rfl
@[simp] theorem setSt_cu (p : Part) (x : StripTracker) : (setSt p x).cu = p.cu := rfl
@[simp] theorem setSt_bm (p : Part) (x : StripTracker) : (setSt p x).bm = p.bm := rfl
@[simp] theorem setSt_map (p : Part) (x : StripTracker) : (setSt p x).map = p.map := rfl
@[simp] theorem setSt_store (p : Part) (x : StripTracker) : (setSt p x).store = p.store := rfl
@[simp] theorem setSt_st (p : Part) (x : StripTracker) : (setSt p x).st = x := rfl
@[simp] theorem setSt_pru (p : Part) (x : StripTracker) : (setSt p x).pru = p.pru := rfl
@[simp] theorem setSt_ahu (p : Part) (x : StripTracker) : (setSt p x).ahu = p.ahu := rfl
@[simp] theorem setSt_pnc (p : Part) (x : StripTracker) : (setSt p x).pnc = p.pnc := rfl
@[simp] theorem setPru_time (p : Part) (x : PullUnit) : (setPru p x).time = p.time := rfl
@[simp] theorem setPru_rp (p : Part) (x : PullUnit) : (setPru p x).rp = p.rp := rfl
@[simp] theorem setPru_cu (p : Part) (x : PullUnit) : (setPru p x).cu = p.cu := rfl
@[simp] theorem setPru_bm (p : Part) (x : PullUnit) : (setPru p x).bm = p.bm := rfl
@[simp] theorem setPru_map (p : Part) (x : PullUnit) : (setPru p x).map = p.map := rfl
@[simp] theorem setPru_store (p : Part) (x : PullUnit) : (setPru p x).store = p.store := rfl
@[simp] theorem setPru_st (p : Part) (x : PullUnit) : (setPru p x).st = p.st := rfl
@[simp] theorem setPru_pru (p : Part) (x : PullUnit) : (setPru p x).pru = x := rfl
@[simp] theorem setPru_ahu (p : Part) (x : PullUnit) : (setPru p x).ahu = p.ahu := rfl
@[simp] theorem setPru_pnc (p : Part) (x : PullUnit) : (setPru p x).pnc = p.pnc := rfl
@[simp] theorem setAhu_time (p : Part) (x : AlarmUnit) : (setAhu p x).time = p.time := rfl
@[simp] theorem setAhu_rp (p : Part) (x : AlarmUnit) : (setAhu p x).rp = p.rp := rfl
@[simp] theorem setAhu_cu (p : Part) (x : AlarmUnit) : (setAhu p x).cu = p.cu := rfl
@[simp] theorem setAhu_bm (p : Part) (x : AlarmUnit) : (setAhu p x).bm = p.bm := rfl
@[simp] theorem setAhu_map (p : Part) (x : AlarmUnit) : (setAhu p x).map = p.map := rfl
@[simp] theorem setAhu_store (p : Part) (x : AlarmUnit) : (setAhu p x).store = p.store := rfl
@[simp] theorem setAhu_st (p : Part) (x : AlarmUnit) : (setAhu p x).st = p.st := rfl
@[simp] theorem setAhu_pru (p : Part) (x : AlarmUnit) : (setAhu p x).pru = p.pru := rfl
@[simp] theorem setAhu_ahu (p : Part) (x : AlarmUnit) : (setAhu p x).ahu = x := rfl
@[simp] theorem setAhu_pnc (p : Part) (x : AlarmUnit) : (setAhu p x).pnc = p.pnc := rfl
@[simp] theorem setPnc_time (p : Part) (x : PanelController) : (setPnc p x).time = p.time := rfl
@[simp] theorem setPnc_rp (p : Part) (x : PanelController) : (setPnc p x).rp = p.rp := rfl
@[simp] theorem setPnc_cu (p : Part) (x : PanelController) : (setPnc p x).cu = p.cu := rfl
@[simp] theorem setPnc_bm (p : Part) (x : PanelController) : (setPnc p x).bm = p.bm := rfl
@[simp] theorem setPnc_map (p : Part) (x : PanelController) : (setPnc p x).map = p.map := rfl
@[simp] theorem setPnc_store (p : Part) (x : PanelController) : (setPnc p x).store = p.store := rfl
@[simp] theorem setPnc_st (p : Part) (x : PanelController) : (setPnc p x).st = p.st := rfl
@[simp] theorem setPnc_pru (p : Part) (x : PanelController) : (setPnc p x).pru = p.pru := rfl
@[simp] theorem setPnc_ahu (p : Part) (x : PanelController) : (setPnc p x).ahu = p.ahu := rfl
@[simp] theorem setPnc_pnc (p : Part) (x : PanelController) : (setPnc p x).pnc = x := rfl

/-! ## Tables -/

@[simp] theorem vset_get_same {α : Type} {n : Nat} (v : Vector α n) (i : Fin n) (x : α) :
    (vset v i x).get i = x := by
  show (v.set i.val x i.isLt)[i.val] = x
  simp

@[simp] theorem vset_get_other {α : Type} {n : Nat} (v : Vector α n) (i j : Fin n) (x : α) (h : j ≠ i) :
    (vset v i x).get j = v.get j := by
  have h' : i.val ≠ j.val := fun e => h (Fin.ext e.symm)
  show (v.set i.val x i.isLt)[j.val] = v[j.val]
  simp [h']

@[simp] theorem vmod_get_same {α : Type} {n : Nat} (v : Vector α n) (i : Fin n) (f : α → α) :
    (vmod v i f).get i = f (v.get i) := by
  simp [vmod]

@[simp] theorem vmod_get_other {α : Type} {n : Nat} (v : Vector α n) (i j : Fin n) (f : α → α)
    (h : j ≠ i) : (vmod v i f).get j = v.get j := by
  simp [vmod, h]

@[simp] theorem vmap_get {α : Type} {n : Nat} (v : Vector α n) (i : Fin n) (f : α → α) :
    (vmap f v).get i = f (v.get i) := by
  show (v.toList.map f).toArray[i.val]'(by simp) = f v[i.val]
  simp

/-! ## Counters -/

/-- A counter either saturates or rises by one. -/
theorem inc_cases (c : Count) : (c = 0xFFFF#16 ∧ inc c = c) ∨ (c ≠ 0xFFFF#16 ∧ inc c = c + 1) := by
  unfold inc
  split
  · exact .inl ⟨‹_›, rfl⟩
  · exact .inr ⟨‹_›, rfl⟩

end Sys2Proof.Machine
end

