-- ==== Sys2Proof/Laws/Frames.lean ====
section
/-! SUPPORT. The frames of the shared operations: for each, the blocks of the part that it leaves as they
were. -/

namespace Sys2Proof.Machine

/-! ## Updates of one table or counter group -/

@[simp] theorem modChannel_time (p : Part) (h : Side) (f : Channel → Channel) :
    (modChannel p h f).time = p.time := rfl
@[simp] theorem modChannel_rp (p : Part) (h : Side) (f : Channel → Channel) :
    (modChannel p h f).rp = p.rp := rfl
@[simp] theorem modChannel_cu (p : Part) (h : Side) (f : Channel → Channel) :
    (modChannel p h f).cu = p.cu := rfl
@[simp] theorem modChannel_map (p : Part) (h : Side) (f : Channel → Channel) :
    (modChannel p h f).map = p.map := rfl
@[simp] theorem modChannel_store (p : Part) (h : Side) (f : Channel → Channel) :
    (modChannel p h f).store = p.store := rfl
@[simp] theorem modChannel_st (p : Part) (h : Side) (f : Channel → Channel) :
    (modChannel p h f).st = p.st := rfl
@[simp] theorem modChannel_pru (p : Part) (h : Side) (f : Channel → Channel) :
    (modChannel p h f).pru = p.pru := rfl
@[simp] theorem modChannel_ahu (p : Part) (h : Side) (f : Channel → Channel) :
    (modChannel p h f).ahu = p.ahu := rfl
@[simp] theorem modChannel_pnc (p : Part) (h : Side) (f : Channel → Channel) :
    (modChannel p h f).pnc = p.pnc := rfl

@[simp] theorem modContext_time (p : Part) (h : Side) (i : Fin 4) (f : Context → Context) :
    (modContext p h i f).time = p.time := rfl
@[simp] theorem modContext_rp (p : Part) (h : Side) (i : Fin 4) (f : Context → Context) :
    (modContext p h i f).rp = p.rp := rfl
@[simp] theorem modContext_cu (p : Part) (h : Side) (i : Fin 4) (f : Context → Context) :
    (modContext p h i f).cu = p.cu := rfl
@[simp] theorem modContext_map (p : Part) (h : Side) (i : Fin 4) (f : Context → Context) :
    (modContext p h i f).map = p.map := rfl
@[simp] theorem modContext_store (p : Part) (h : Side) (i : Fin 4) (f : Context → Context) :
    (modContext p h i f).store = p.store := rfl
@[simp] theorem modContext_st (p : Part) (h : Side) (i : Fin 4) (f : Context → Context) :
    (modContext p h i f).st = p.st := rfl
@[simp] theorem modContext_pru (p : Part) (h : Side) (i : Fin 4) (f : Context → Context) :
    (modContext p h i f).pru = p.pru := rfl
@[simp] theorem modContext_ahu (p : Part) (h : Side) (i : Fin 4) (f : Context → Context) :
    (modContext p h i f).ahu = p.ahu := rfl
@[simp] theorem modContext_pnc (p : Part) (h : Side) (i : Fin 4) (f : Context → Context) :
    (modContext p h i f).pnc = p.pnc := rfl

@[simp] theorem countChannel_time (p : Part) (h : Side) (f : ChannelCounters → ChannelCounters) :
    (countChannel p h f).time = p.time := rfl
@[simp] theorem countChannel_rp (p : Part) (h : Side) (f : ChannelCounters → ChannelCounters) :
    (countChannel p h f).rp = p.rp := rfl
@[simp] theorem countChannel_cu (p : Part) (h : Side) (f : ChannelCounters → ChannelCounters) :
    (countChannel p h f).cu = p.cu := rfl
@[simp] theorem countChannel_map (p : Part) (h : Side) (f : ChannelCounters → ChannelCounters) :
    (countChannel p h f).map = p.map := rfl
@[simp] theorem countChannel_store (p : Part) (h : Side) (f : ChannelCounters → ChannelCounters) :
    (countChannel p h f).store = p.store := rfl
@[simp] theorem countChannel_st (p : Part) (h : Side) (f : ChannelCounters → ChannelCounters) :
    (countChannel p h f).st = p.st := rfl
@[simp] theorem countChannel_pru (p : Part) (h : Side) (f : ChannelCounters → ChannelCounters) :
    (countChannel p h f).pru = p.pru := rfl
@[simp] theorem countChannel_ahu (p : Part) (h : Side) (f : ChannelCounters → ChannelCounters) :
    (countChannel p h f).ahu = p.ahu := rfl
@[simp] theorem countChannel_pnc (p : Part) (h : Side) (f : ChannelCounters → ChannelCounters) :
    (countChannel p h f).pnc = p.pnc := rfl

@[simp] theorem countMap_time (p : Part) (f : MapCounters → MapCounters) :
    (countMap p f).time = p.time := rfl
@[simp] theorem countMap_rp (p : Part) (f : MapCounters → MapCounters) :
    (countMap p f).rp = p.rp := rfl
@[simp] theorem countMap_cu (p : Part) (f : MapCounters → MapCounters) :
    (countMap p f).cu = p.cu := rfl
@[simp] theorem countMap_bm (p : Part) (f : MapCounters → MapCounters) :
    (countMap p f).bm = p.bm := rfl
@[simp] theorem countMap_store (p : Part) (f : MapCounters → MapCounters) :
    (countMap p f).store = p.store := rfl
@[simp] theorem countMap_st (p : Part) (f : MapCounters → MapCounters) :
    (countMap p f).st = p.st := rfl
@[simp] theorem countMap_pru (p : Part) (f : MapCounters → MapCounters) :
    (countMap p f).pru = p.pru := rfl
@[simp] theorem countMap_ahu (p : Part) (f : MapCounters → MapCounters) :
    (countMap p f).ahu = p.ahu := rfl
@[simp] theorem countMap_pnc (p : Part) (f : MapCounters → MapCounters) :
    (countMap p f).pnc = p.pnc := rfl

@[simp] theorem countStore_time (p : Part) (f : StoreCounters → StoreCounters) :
    (countStore p f).time = p.time := rfl
@[simp] theorem countStore_rp (p : Part) (f : StoreCounters → StoreCounters) :
    (countStore p f).rp = p.rp := rfl
@[simp] theorem countStore_cu (p : Part) (f : StoreCounters → StoreCounters) :
    (countStore p f).cu = p.cu := rfl
@[simp] theorem countStore_bm (p : Part) (f : StoreCounters → StoreCounters) :
    (countStore p f).bm = p.bm := rfl
@[simp] theorem countStore_map (p : Part) (f : StoreCounters → StoreCounters) :
    (countStore p f).map = p.map := rfl
@[simp] theorem countStore_st (p : Part) (f : StoreCounters → StoreCounters) :
    (countStore p f).st = p.st := rfl
@[simp] theorem countStore_pru (p : Part) (f : StoreCounters → StoreCounters) :
    (countStore p f).pru = p.pru := rfl
@[simp] theorem countStore_ahu (p : Part) (f : StoreCounters → StoreCounters) :
    (countStore p f).ahu = p.ahu := rfl
@[simp] theorem countStore_pnc (p : Part) (f : StoreCounters → StoreCounters) :
    (countStore p f).pnc = p.pnc := rfl

@[simp] theorem countStrips_time (p : Part) (f : StripCounters → StripCounters) :
    (countStrips p f).time = p.time := rfl
@[simp] theorem countStrips_rp (p : Part) (f : StripCounters → StripCounters) :
    (countStrips p f).rp = p.rp := rfl
@[simp] theorem countStrips_cu (p : Part) (f : StripCounters → StripCounters) :
    (countStrips p f).cu = p.cu := rfl
@[simp] theorem countStrips_bm (p : Part) (f : StripCounters → StripCounters) :
    (countStrips p f).bm = p.bm := rfl
@[simp] theorem countStrips_map (p : Part) (f : StripCounters → StripCounters) :
    (countStrips p f).map = p.map := rfl
@[simp] theorem countStrips_store (p : Part) (f : StripCounters → StripCounters) :
    (countStrips p f).store = p.store := rfl
@[simp] theorem countStrips_pru (p : Part) (f : StripCounters → StripCounters) :
    (countStrips p f).pru = p.pru := rfl
@[simp] theorem countStrips_ahu (p : Part) (f : StripCounters → StripCounters) :
    (countStrips p f).ahu = p.ahu := rfl
@[simp] theorem countStrips_pnc (p : Part) (f : StripCounters → StripCounters) :
    (countStrips p f).pnc = p.pnc := rfl

@[simp] theorem countPulls_time (p : Part) (f : PullCounters → PullCounters) :
    (countPulls p f).time = p.time := rfl
@[simp] theorem countPulls_rp (p : Part) (f : PullCounters → PullCounters) :
    (countPulls p f).rp = p.rp := rfl
@[simp] theorem countPulls_cu (p : Part) (f : PullCounters → PullCounters) :
    (countPulls p f).cu = p.cu := rfl
@[simp] theorem countPulls_bm (p : Part) (f : PullCounters → PullCounters) :
    (countPulls p f).bm = p.bm := rfl
@[simp] theorem countPulls_map (p : Part) (f : PullCounters → PullCounters) :
    (countPulls p f).map = p.map := rfl
@[simp] theorem countPulls_store (p : Part) (f : PullCounters → PullCounters) :
    (countPulls p f).store = p.store := rfl
@[simp] theorem countPulls_st (p : Part) (f : PullCounters → PullCounters) :
    (countPulls p f).st = p.st := rfl
@[simp] theorem countPulls_ahu (p : Part) (f : PullCounters → PullCounters) :
    (countPulls p f).ahu = p.ahu := rfl
@[simp] theorem countPulls_pnc (p : Part) (f : PullCounters → PullCounters) :
    (countPulls p f).pnc = p.pnc := rfl

@[simp] theorem countAlarms_time (p : Part) (f : AlarmCounters → AlarmCounters) :
    (countAlarms p f).time = p.time := rfl
@[simp] theorem countAlarms_rp (p : Part) (f : AlarmCounters → AlarmCounters) :
    (countAlarms p f).rp = p.rp := rfl
@[simp] theorem countAlarms_cu (p : Part) (f : AlarmCounters → AlarmCounters) :
    (countAlarms p f).cu = p.cu := rfl
@[simp] theorem countAlarms_bm (p : Part) (f : AlarmCounters → AlarmCounters) :
    (countAlarms p f).bm = p.bm := rfl
@[simp] theorem countAlarms_map (p : Part) (f : AlarmCounters → AlarmCounters) :
    (countAlarms p f).map = p.map := rfl
@[simp] theorem countAlarms_store (p : Part) (f : AlarmCounters → AlarmCounters) :
    (countAlarms p f).store = p.store := rfl
@[simp] theorem countAlarms_st (p : Part) (f : AlarmCounters → AlarmCounters) :
    (countAlarms p f).st = p.st := rfl
@[simp] theorem countAlarms_pru (p : Part) (f : AlarmCounters → AlarmCounters) :
    (countAlarms p f).pru = p.pru := rfl
@[simp] theorem countAlarms_pnc (p : Part) (f : AlarmCounters → AlarmCounters) :
    (countAlarms p f).pnc = p.pnc := rfl

@[simp] theorem countRing_time (p : Part) (f : RingCounters → RingCounters) :
    (countRing p f).time = p.time := rfl
@[simp] theorem countRing_cu (p : Part) (f : RingCounters → RingCounters) :
    (countRing p f).cu = p.cu := rfl
@[simp] theorem countRing_bm (p : Part) (f : RingCounters → RingCounters) :
    (countRing p f).bm = p.bm := rfl
@[simp] theorem countRing_map (p : Part) (f : RingCounters → RingCounters) :
    (countRing p f).map = p.map := rfl
@[simp] theorem countRing_store (p : Part) (f : RingCounters → RingCounters) :
    (countRing p f).store = p.store := rfl
@[simp] theorem countRing_st (p : Part) (f : RingCounters → RingCounters) :
    (countRing p f).st = p.st := rfl
@[simp] theorem countRing_pru (p : Part) (f : RingCounters → RingCounters) :
    (countRing p f).pru = p.pru := rfl
@[simp] theorem countRing_ahu (p : Part) (f : RingCounters → RingCounters) :
    (countRing p f).ahu = p.ahu := rfl
@[simp] theorem countRing_pnc (p : Part) (f : RingCounters → RingCounters) :
    (countRing p f).pnc = p.pnc := rfl

@[simp] theorem modPanel_time (p : Part) (i : Fin 4) (f : Panel → Panel) :
    (modPanel p i f).time = p.time := rfl
@[simp] theorem modPanel_rp (p : Part) (i : Fin 4) (f : Panel → Panel) :
    (modPanel p i f).rp = p.rp := rfl
@[simp] theorem modPanel_cu (p : Part) (i : Fin 4) (f : Panel → Panel) :
    (modPanel p i f).cu = p.cu := rfl
@[simp] theorem modPanel_bm (p : Part) (i : Fin 4) (f : Panel → Panel) :
    (modPanel p i f).bm = p.bm := rfl
@[simp] theorem modPanel_map (p : Part) (i : Fin 4) (f : Panel → Panel) :
    (modPanel p i f).map = p.map := rfl
@[simp] theorem modPanel_store (p : Part) (i : Fin 4) (f : Panel → Panel) :
    (modPanel p i f).store = p.store := rfl
@[simp] theorem modPanel_st (p : Part) (i : Fin 4) (f : Panel → Panel) :
    (modPanel p i f).st = p.st := rfl
@[simp] theorem modPanel_pru (p : Part) (i : Fin 4) (f : Panel → Panel) :
    (modPanel p i f).pru = p.pru := rfl
@[simp] theorem modPanel_ahu (p : Part) (i : Fin 4) (f : Panel → Panel) :
    (modPanel p i f).ahu = p.ahu := rfl

@[simp] theorem modPanels_time (p : Part) (f : Panel → Panel) :
    (modPanels p f).time = p.time := rfl
@[simp] theorem modPanels_rp (p : Part) (f : Panel → Panel) : (modPanels p f).rp = p.rp := rfl
@[simp] theorem modPanels_cu (p : Part) (f : Panel → Panel) : (modPanels p f).cu = p.cu := rfl
@[simp] theorem modPanels_bm (p : Part) (f : Panel → Panel) : (modPanels p f).bm = p.bm := rfl
@[simp] theorem modPanels_map (p : Part) (f : Panel → Panel) : (modPanels p f).map = p.map := rfl
@[simp] theorem modPanels_store (p : Part) (f : Panel → Panel) :
    (modPanels p f).store = p.store := rfl
@[simp] theorem modPanels_st (p : Part) (f : Panel → Panel) : (modPanels p f).st = p.st := rfl
@[simp] theorem modPanels_pru (p : Part) (f : Panel → Panel) : (modPanels p f).pru = p.pru := rfl
@[simp] theorem modPanels_ahu (p : Part) (f : Panel → Panel) : (modPanels p f).ahu = p.ahu := rfl

@[simp] theorem modFeeder_time (p : Part) (l : Side) (f : FeederHolds → FeederHolds) :
    (modFeeder p l f).time = p.time := rfl
@[simp] theorem modFeeder_rp (p : Part) (l : Side) (f : FeederHolds → FeederHolds) :
    (modFeeder p l f).rp = p.rp := rfl
@[simp] theorem modFeeder_cu (p : Part) (l : Side) (f : FeederHolds → FeederHolds) :
    (modFeeder p l f).cu = p.cu := rfl
@[simp] theorem modFeeder_bm (p : Part) (l : Side) (f : FeederHolds → FeederHolds) :
    (modFeeder p l f).bm = p.bm := rfl
@[simp] theorem modFeeder_map (p : Part) (l : Side) (f : FeederHolds → FeederHolds) :
    (modFeeder p l f).map = p.map := rfl
@[simp] theorem modFeeder_store (p : Part) (l : Side) (f : FeederHolds → FeederHolds) :
    (modFeeder p l f).store = p.store := rfl
@[simp] theorem modFeeder_st (p : Part) (l : Side) (f : FeederHolds → FeederHolds) :
    (modFeeder p l f).st = p.st := rfl
@[simp] theorem modFeeder_pru (p : Part) (l : Side) (f : FeederHolds → FeederHolds) :
    (modFeeder p l f).pru = p.pru := rfl
@[simp] theorem modFeeder_pnc (p : Part) (l : Side) (f : FeederHolds → FeederHolds) :
    (modFeeder p l f).pnc = p.pnc := rfl

@[simp] theorem countFaulted_time (p : Part) : (countFaulted p).time = p.time := rfl
@[simp] theorem countFaulted_rp (p : Part) : (countFaulted p).rp = p.rp := rfl
@[simp] theorem countFaulted_cu (p : Part) : (countFaulted p).cu = p.cu := rfl
@[simp] theorem countFaulted_bm (p : Part) : (countFaulted p).bm = p.bm := rfl
@[simp] theorem countFaulted_map (p : Part) : (countFaulted p).map = p.map := rfl
@[simp] theorem countFaulted_st (p : Part) : (countFaulted p).st = p.st := rfl
@[simp] theorem countFaulted_pru (p : Part) : (countFaulted p).pru = p.pru := rfl
@[simp] theorem countFaulted_ahu (p : Part) : (countFaulted p).ahu = p.ahu := rfl
@[simp] theorem countFaulted_pnc (p : Part) : (countFaulted p).pnc = p.pnc := rfl

/-! ## The outbound queue -/

@[simp] theorem queueParcel_time (p : Part) (q : Parcel) : (queueParcel p q).time = p.time := rfl
@[simp] theorem queueParcel_cu (p : Part) (q : Parcel) : (queueParcel p q).cu = p.cu := rfl
@[simp] theorem queueParcel_bm (p : Part) (q : Parcel) : (queueParcel p q).bm = p.bm := rfl
@[simp] theorem queueParcel_map (p : Part) (q : Parcel) : (queueParcel p q).map = p.map := rfl
@[simp] theorem queueParcel_store (p : Part) (q : Parcel) :
    (queueParcel p q).store = p.store := rfl
@[simp] theorem queueParcel_st (p : Part) (q : Parcel) : (queueParcel p q).st = p.st := rfl
@[simp] theorem queueParcel_pru (p : Part) (q : Parcel) : (queueParcel p q).pru = p.pru := rfl
@[simp] theorem queueParcel_ahu (p : Part) (q : Parcel) : (queueParcel p q).ahu = p.ahu := rfl
@[simp] theorem queueParcel_pnc (p : Part) (q : Parcel) : (queueParcel p q).pnc = p.pnc := rfl

@[simp] theorem offerNotice_time (p : Part) (k : Nat) (x : List Byte) :
    (offerNotice p k x).time = p.time := by
  unfold offerNotice; dsimp only; split <;> rfl
@[simp] theorem offerNotice_cu (p : Part) (k : Nat) (x : List Byte) :
    (offerNotice p k x).cu = p.cu := by
  unfold offerNotice; dsimp only; split <;> rfl
@[simp] theorem offerNotice_bm (p : Part) (k : Nat) (x : List Byte) :
    (offerNotice p k x).bm = p.bm := by
  unfold offerNotice; dsimp only; split <;> rfl
@[simp] theorem offerNotice_map (p : Part) (k : Nat) (x : List Byte) :
    (offerNotice p k x).map = p.map := by
  unfold offerNotice; dsimp only; split <;> rfl
@[simp] theorem offerNotice_store (p : Part) (k : Nat) (x : List Byte) :
    (offerNotice p k x).store = p.store := by
  unfold offerNotice; dsimp only; split <;> rfl
@[simp] theorem offerNotice_st (p : Part) (k : Nat) (x : List Byte) :
    (offerNotice p k x).st = p.st := by
  unfold offerNotice; dsimp only; split <;> rfl
@[simp] theorem offerNotice_pru (p : Part) (k : Nat) (x : List Byte) :
    (offerNotice p k x).pru = p.pru := by
  unfold offerNotice; dsimp only; split <;> rfl
@[simp] theorem offerNotice_ahu (p : Part) (k : Nat) (x : List Byte) :
    (offerNotice p k x).ahu = p.ahu := by
  unfold offerNotice; dsimp only; split <;> rfl
@[simp] theorem offerNotice_pnc (p : Part) (k : Nat) (x : List Byte) :
    (offerNotice p k x).pnc = p.pnc := by
  unfold offerNotice; dsimp only; split <;> rfl

@[simp] theorem offerIf_time (b : Bool) (p : Part) (k : Nat) (x : List Byte) :
    (offerIf b p k x).time = p.time := by
  unfold offerIf; split <;> simp
@[simp] theorem offerIf_cu (b : Bool) (p : Part) (k : Nat) (x : List Byte) :
    (offerIf b p k x).cu = p.cu := by
  unfold offerIf; split <;> simp
@[simp] theorem offerIf_bm (b : Bool) (p : Part) (k : Nat) (x : List Byte) :
    (offerIf b p k x).bm = p.bm := by
  unfold offerIf; split <;> simp
@[simp] theorem offerIf_map (b : Bool) (p : Part) (k : Nat) (x : List Byte) :
    (offerIf b p k x).map = p.map := by
  unfold offerIf; split <;> simp
@[simp] theorem offerIf_store (b : Bool) (p : Part) (k : Nat) (x : List Byte) :
    (offerIf b p k x).store = p.store := by
  unfold offerIf; split <;> simp
@[simp] theorem offerIf_st (b : Bool) (p : Part) (k : Nat) (x : List Byte) :
    (offerIf b p k x).st = p.st := by
  unfold offerIf; split <;> simp
@[simp] theorem offerIf_pru (b : Bool) (p : Part) (k : Nat) (x : List Byte) :
    (offerIf b p k x).pru = p.pru := by
  unfold offerIf; split <;> simp
@[simp] theorem offerIf_ahu (b : Bool) (p : Part) (k : Nat) (x : List Byte) :
    (offerIf b p k x).ahu = p.ahu := by
  unfold offerIf; split <;> simp
@[simp] theorem offerIf_pnc (b : Bool) (p : Part) (k : Nat) (x : List Byte) :
    (offerIf b p k x).pnc = p.pnc := by
  unfold offerIf; split <;> simp

@[simp] theorem giveReply_time (p : Part) (k : Byte) (a : Ask) (pl : List Byte) :
    (giveReply p k a pl).time = p.time := rfl
@[simp] theorem giveReply_cu (p : Part) (k : Byte) (a : Ask) (pl : List Byte) :
    (giveReply p k a pl).cu = p.cu := rfl
@[simp] theorem giveReply_bm (p : Part) (k : Byte) (a : Ask) (pl : List Byte) :
    (giveReply p k a pl).bm = p.bm := rfl
@[simp] theorem giveReply_map (p : Part) (k : Byte) (a : Ask) (pl : List Byte) :
    (giveReply p k a pl).map = p.map := rfl
@[simp] theorem giveReply_store (p : Part) (k : Byte) (a : Ask) (pl : List Byte) :
    (giveReply p k a pl).store = p.store := rfl
@[simp] theorem giveReply_st (p : Part) (k : Byte) (a : Ask) (pl : List Byte) :
    (giveReply p k a pl).st = p.st := rfl
@[simp] theorem giveReply_pru (p : Part) (k : Byte) (a : Ask) (pl : List Byte) :
    (giveReply p k a pl).pru = p.pru := rfl
@[simp] theorem giveReply_ahu (p : Part) (k : Byte) (a : Ask) (pl : List Byte) :
    (giveReply p k a pl).ahu = p.ahu := rfl
@[simp] theorem giveReply_pnc (p : Part) (k : Byte) (a : Ask) (pl : List Byte) :
    (giveReply p k a pl).pnc = p.pnc := rfl

@[simp] theorem replyDone_time (p : Part) (d : List Byte) :
    (replyDone p d).time = p.time := by
  unfold replyDone; split <;> rfl
@[simp] theorem replyDone_bm (p : Part) (d : List Byte) :
    (replyDone p d).bm = p.bm := by
  unfold replyDone; split <;> rfl
@[simp] theorem replyDone_map (p : Part) (d : List Byte) :
    (replyDone p d).map = p.map := by
  unfold replyDone; split <;> rfl
@[simp] theorem replyDone_store (p : Part) (d : List Byte) :
    (replyDone p d).store = p.store := by
  unfold replyDone; split <;> rfl
@[simp] theorem replyDone_st (p : Part) (d : List Byte) :
    (replyDone p d).st = p.st := by
  unfold replyDone; split <;> rfl
@[simp] theorem replyDone_pru (p : Part) (d : List Byte) :
    (replyDone p d).pru = p.pru := by
  unfold replyDone; split <;> rfl
@[simp] theorem replyDone_ahu (p : Part) (d : List Byte) :
    (replyDone p d).ahu = p.ahu := by
  unfold replyDone; split <;> rfl
@[simp] theorem replyDone_pnc (p : Part) (d : List Byte) :
    (replyDone p d).pnc = p.pnc := by
  unfold replyDone; split <;> rfl

@[simp] theorem replyRefused_time (p : Part) (r : Reason) :
    (replyRefused p r).time = p.time := by
  unfold replyRefused; split <;> rfl
@[simp] theorem replyRefused_bm (p : Part) (r : Reason) :
    (replyRefused p r).bm = p.bm := by
  unfold replyRefused; split <;> rfl
@[simp] theorem replyRefused_map (p : Part) (r : Reason) :
    (replyRefused p r).map = p.map := by
  unfold replyRefused; split <;> rfl
@[simp] theorem replyRefused_store (p : Part) (r : Reason) :
    (replyRefused p r).store = p.store := by
  unfold replyRefused; split <;> rfl
@[simp] theorem replyRefused_st (p : Part) (r : Reason) :
    (replyRefused p r).st = p.st := by
  unfold replyRefused; split <;> rfl
@[simp] theorem replyRefused_pru (p : Part) (r : Reason) :
    (replyRefused p r).pru = p.pru := by
  unfold replyRefused; split <;> rfl
@[simp] theorem replyRefused_ahu (p : Part) (r : Reason) :
    (replyRefused p r).ahu = p.ahu := by
  unfold replyRefused; split <;> rfl
@[simp] theorem replyRefused_pnc (p : Part) (r : Reason) :
    (replyRefused p r).pnc = p.pnc := by
  unfold replyRefused; split <;> rfl

@[simp] theorem offerVerdict_time (p : Part) (c : Context) (j : Judgement) (k : Option (BitVec 32)) :
    (offerVerdict p c j k).time = p.time := offerIf_time _ _ _ _
@[simp] theorem offerVerdict_cu (p : Part) (c : Context) (j : Judgement) (k : Option (BitVec 32)) :
    (offerVerdict p c j k).cu = p.cu := offerIf_cu _ _ _ _
@[simp] theorem offerVerdict_bm (p : Part) (c : Context) (j : Judgement) (k : Option (BitVec 32)) :
    (offerVerdict p c j k).bm = p.bm := offerIf_bm _ _ _ _
@[simp] theorem offerVerdict_map (p : Part) (c : Context) (j : Judgement) (k : Option (BitVec 32)) :
    (offerVerdict p c j k).map = p.map := offerIf_map _ _ _ _
@[simp] theorem offerVerdict_store (p : Part) (c : Context) (j : Judgement) (k : Option (BitVec 32)) :
    (offerVerdict p c j k).store = p.store := offerIf_store _ _ _ _
@[simp] theorem offerVerdict_st (p : Part) (c : Context) (j : Judgement) (k : Option (BitVec 32)) :
    (offerVerdict p c j k).st = p.st := offerIf_st _ _ _ _
@[simp] theorem offerVerdict_pru (p : Part) (c : Context) (j : Judgement) (k : Option (BitVec 32)) :
    (offerVerdict p c j k).pru = p.pru := offerIf_pru _ _ _ _
@[simp] theorem offerVerdict_ahu (p : Part) (c : Context) (j : Judgement) (k : Option (BitVec 32)) :
    (offerVerdict p c j k).ahu = p.ahu := offerIf_ahu _ _ _ _
@[simp] theorem offerVerdict_pnc (p : Part) (c : Context) (j : Judgement) (k : Option (BitVec 32)) :
    (offerVerdict p c j k).pnc = p.pnc := offerIf_pnc _ _ _ _

@[simp] theorem offerStrip_time (p : Part) (x : List Byte) :
    (offerStrip p x).time = p.time := offerIf_time _ _ _ _
@[simp] theorem offerStrip_cu (p : Part) (x : List Byte) :
    (offerStrip p x).cu = p.cu := offerIf_cu _ _ _ _
@[simp] theorem offerStrip_bm (p : Part) (x : List Byte) :
    (offerStrip p x).bm = p.bm := offerIf_bm _ _ _ _
@[simp] theorem offerStrip_map (p : Part) (x : List Byte) :
    (offerStrip p x).map = p.map := offerIf_map _ _ _ _
@[simp] theorem offerStrip_store (p : Part) (x : List Byte) :
    (offerStrip p x).store = p.store := offerIf_store _ _ _ _
@[simp] theorem offerStrip_st (p : Part) (x : List Byte) :
    (offerStrip p x).st = p.st := offerIf_st _ _ _ _
@[simp] theorem offerStrip_pru (p : Part) (x : List Byte) :
    (offerStrip p x).pru = p.pru := offerIf_pru _ _ _ _
@[simp] theorem offerStrip_ahu (p : Part) (x : List Byte) :
    (offerStrip p x).ahu = p.ahu := offerIf_ahu _ _ _ _
@[simp] theorem offerStrip_pnc (p : Part) (x : List Byte) :
    (offerStrip p x).pnc = p.pnc := offerIf_pnc _ _ _ _

@[simp] theorem offerPull_time (p : Part) (k : Option (BitVec 32)) (r : PullRecord) :
    (offerPull p k r).time = p.time := offerIf_time _ _ _ _
@[simp] theorem offerPull_cu (p : Part) (k : Option (BitVec 32)) (r : PullRecord) :
    (offerPull p k r).cu = p.cu := offerIf_cu _ _ _ _
@[simp] theorem offerPull_bm (p : Part) (k : Option (BitVec 32)) (r : PullRecord) :
    (offerPull p k r).bm = p.bm := offerIf_bm _ _ _ _
@[simp] theorem offerPull_map (p : Part) (k : Option (BitVec 32)) (r : PullRecord) :
    (offerPull p k r).map = p.map := offerIf_map _ _ _ _
@[simp] theorem offerPull_store (p : Part) (k : Option (BitVec 32)) (r : PullRecord) :
    (offerPull p k r).store = p.store := offerIf_store _ _ _ _
@[simp] theorem offerPull_st (p : Part) (k : Option (BitVec 32)) (r : PullRecord) :
    (offerPull p k r).st = p.st := offerIf_st _ _ _ _
@[simp] theorem offerPull_pru (p : Part) (k : Option (BitVec 32)) (r : PullRecord) :
    (offerPull p k r).pru = p.pru := offerIf_pru _ _ _ _
@[simp] theorem offerPull_ahu (p : Part) (k : Option (BitVec 32)) (r : PullRecord) :
    (offerPull p k r).ahu = p.ahu := offerIf_ahu _ _ _ _
@[simp] theorem offerPull_pnc (p : Part) (k : Option (BitVec 32)) (r : PullRecord) :
    (offerPull p k r).pnc = p.pnc := offerIf_pnc _ _ _ _

@[simp] theorem offerAlarm_time (p : Part) (x : AlarmAction) (a : Alarm) :
    (offerAlarm p x a).time = p.time := offerIf_time _ _ _ _
@[simp] theorem offerAlarm_cu (p : Part) (x : AlarmAction) (a : Alarm) :
    (offerAlarm p x a).cu = p.cu := offerIf_cu _ _ _ _
@[simp] theorem offerAlarm_bm (p : Part) (x : AlarmAction) (a : Alarm) :
    (offerAlarm p x a).bm = p.bm := offerIf_bm _ _ _ _
@[simp] theorem offerAlarm_map (p : Part) (x : AlarmAction) (a : Alarm) :
    (offerAlarm p x a).map = p.map := offerIf_map _ _ _ _
@[simp] theorem offerAlarm_store (p : Part) (x : AlarmAction) (a : Alarm) :
    (offerAlarm p x a).store = p.store := offerIf_store _ _ _ _
@[simp] theorem offerAlarm_st (p : Part) (x : AlarmAction) (a : Alarm) :
    (offerAlarm p x a).st = p.st := offerIf_st _ _ _ _
@[simp] theorem offerAlarm_pru (p : Part) (x : AlarmAction) (a : Alarm) :
    (offerAlarm p x a).pru = p.pru := offerIf_pru _ _ _ _
@[simp] theorem offerAlarm_ahu (p : Part) (x : AlarmAction) (a : Alarm) :
    (offerAlarm p x a).ahu = p.ahu := offerIf_ahu _ _ _ _
@[simp] theorem offerAlarm_pnc (p : Part) (x : AlarmAction) (a : Alarm) :
    (offerAlarm p x a).pnc = p.pnc := offerIf_pnc _ _ _ _

@[simp] theorem offerBondWrap_time (p : Part) (k : BitVec 32) (n : Nat) :
    (offerBondWrap p k n).time = p.time := offerIf_time _ _ _ _
@[simp] theorem offerBondWrap_cu (p : Part) (k : BitVec 32) (n : Nat) :
    (offerBondWrap p k n).cu = p.cu := offerIf_cu _ _ _ _
@[simp] theorem offerBondWrap_bm (p : Part) (k : BitVec 32) (n : Nat) :
    (offerBondWrap p k n).bm = p.bm := offerIf_bm _ _ _ _
@[simp] theorem offerBondWrap_map (p : Part) (k : BitVec 32) (n : Nat) :
    (offerBondWrap p k n).map = p.map := offerIf_map _ _ _ _
@[simp] theorem offerBondWrap_store (p : Part) (k : BitVec 32) (n : Nat) :
    (offerBondWrap p k n).store = p.store := offerIf_store _ _ _ _
@[simp] theorem offerBondWrap_st (p : Part) (k : BitVec 32) (n : Nat) :
    (offerBondWrap p k n).st = p.st := offerIf_st _ _ _ _
@[simp] theorem offerBondWrap_pru (p : Part) (k : BitVec 32) (n : Nat) :
    (offerBondWrap p k n).pru = p.pru := offerIf_pru _ _ _ _
@[simp] theorem offerBondWrap_ahu (p : Part) (k : BitVec 32) (n : Nat) :
    (offerBondWrap p k n).ahu = p.ahu := offerIf_ahu _ _ _ _
@[simp] theorem offerBondWrap_pnc (p : Part) (k : BitVec 32) (n : Nat) :
    (offerBondWrap p k n).pnc = p.pnc := offerIf_pnc _ _ _ _

@[simp] theorem offerPullWrap_time (p : Part) (k : BitVec 32) (n : Nat) :
    (offerPullWrap p k n).time = p.time := offerIf_time _ _ _ _
@[simp] theorem offerPullWrap_cu (p : Part) (k : BitVec 32) (n : Nat) :
    (offerPullWrap p k n).cu = p.cu := offerIf_cu _ _ _ _
@[simp] theorem offerPullWrap_bm (p : Part) (k : BitVec 32) (n : Nat) :
    (offerPullWrap p k n).bm = p.bm := offerIf_bm _ _ _ _
@[simp] theorem offerPullWrap_map (p : Part) (k : BitVec 32) (n : Nat) :
    (offerPullWrap p k n).map = p.map := offerIf_map _ _ _ _
@[simp] theorem offerPullWrap_store (p : Part) (k : BitVec 32) (n : Nat) :
    (offerPullWrap p k n).store = p.store := offerIf_store _ _ _ _
@[simp] theorem offerPullWrap_st (p : Part) (k : BitVec 32) (n : Nat) :
    (offerPullWrap p k n).st = p.st := offerIf_st _ _ _ _
@[simp] theorem offerPullWrap_pru (p : Part) (k : BitVec 32) (n : Nat) :
    (offerPullWrap p k n).pru = p.pru := offerIf_pru _ _ _ _
@[simp] theorem offerPullWrap_ahu (p : Part) (k : BitVec 32) (n : Nat) :
    (offerPullWrap p k n).ahu = p.ahu := offerIf_ahu _ _ _ _
@[simp] theorem offerPullWrap_pnc (p : Part) (k : BitVec 32) (n : Nat) :
    (offerPullWrap p k n).pnc = p.pnc := offerIf_pnc _ _ _ _

@[simp] theorem offerStore_time (p : Part) : (offerStore p).time = p.time := offerNotice_time _ _ _
@[simp] theorem offerStore_cu (p : Part) : (offerStore p).cu = p.cu := offerNotice_cu _ _ _
@[simp] theorem offerStore_bm (p : Part) : (offerStore p).bm = p.bm := offerNotice_bm _ _ _
@[simp] theorem offerStore_map (p : Part) : (offerStore p).map = p.map := offerNotice_map _ _ _
@[simp] theorem offerStore_store (p : Part) :
    (offerStore p).store = p.store := offerNotice_store _ _ _
@[simp] theorem offerStore_st (p : Part) : (offerStore p).st = p.st := offerNotice_st _ _ _
@[simp] theorem offerStore_pru (p : Part) : (offerStore p).pru = p.pru := offerNotice_pru _ _ _
@[simp] theorem offerStore_ahu (p : Part) : (offerStore p).ahu = p.ahu := offerNotice_ahu _ _ _
@[simp] theorem offerStore_pnc (p : Part) : (offerStore p).pnc = p.pnc := offerNotice_pnc _ _ _

/-! ## Panels that follow the state -/

@[simp] theorem markLive_time (b p : Part) : (markLive b p).time = p.time := rfl
@[simp] theorem markLive_rp (b p : Part) : (markLive b p).rp = p.rp := rfl
@[simp] theorem markLive_cu (b p : Part) : (markLive b p).cu = p.cu := rfl
@[simp] theorem markLive_bm (b p : Part) : (markLive b p).bm = p.bm := rfl
@[simp] theorem markLive_map (b p : Part) : (markLive b p).map = p.map := rfl
@[simp] theorem markLive_store (b p : Part) : (markLive b p).store = p.store := rfl
@[simp] theorem markLive_st (b p : Part) : (markLive b p).st = p.st := rfl
@[simp] theorem markLive_pru (b p : Part) : (markLive b p).pru = p.pru := rfl
@[simp] theorem markLive_ahu (b p : Part) : (markLive b p).ahu = p.ahu := rfl

@[simp] theorem tracked_time (f : Part → Part) (p : Part) : (tracked f p).time = (f p).time := rfl
@[simp] theorem tracked_rp (f : Part → Part) (p : Part) : (tracked f p).rp = (f p).rp := rfl
@[simp] theorem tracked_cu (f : Part → Part) (p : Part) : (tracked f p).cu = (f p).cu := rfl
@[simp] theorem tracked_bm (f : Part → Part) (p : Part) : (tracked f p).bm = (f p).bm := rfl
@[simp] theorem tracked_map (f : Part → Part) (p : Part) : (tracked f p).map = (f p).map := rfl
@[simp] theorem tracked_store (f : Part → Part) (p : Part) :
    (tracked f p).store = (f p).store := rfl
@[simp] theorem tracked_st (f : Part → Part) (p : Part) : (tracked f p).st = (f p).st := rfl
@[simp] theorem tracked_pru (f : Part → Part) (p : Part) : (tracked f p).pru = (f p).pru := rfl
@[simp] theorem tracked_ahu (f : Part → Part) (p : Part) : (tracked f p).ahu = (f p).ahu := rfl

@[simp] theorem modLane_time (p : Part) (l : Side) (f : Lane → Lane) :
    (modLane p l f).time = p.time := rfl
@[simp] theorem modLane_rp (p : Part) (l : Side) (f : Lane → Lane) :
    (modLane p l f).rp = p.rp := rfl
@[simp] theorem modLane_cu (p : Part) (l : Side) (f : Lane → Lane) :
    (modLane p l f).cu = p.cu := rfl
@[simp] theorem modLane_bm (p : Part) (l : Side) (f : Lane → Lane) :
    (modLane p l f).bm = p.bm := rfl
@[simp] theorem modLane_map (p : Part) (l : Side) (f : Lane → Lane) :
    (modLane p l f).map = p.map := rfl
@[simp] theorem modLane_store (p : Part) (l : Side) (f : Lane → Lane) :
    (modLane p l f).store = p.store := rfl
@[simp] theorem modLane_pru (p : Part) (l : Side) (f : Lane → Lane) :
    (modLane p l f).pru = p.pru := rfl
@[simp] theorem modLane_ahu (p : Part) (l : Side) (f : Lane → Lane) :
    (modLane p l f).ahu = p.ahu := rfl

@[simp] theorem modHead_time (p : Part) (h : Side) (f : HeadHolds → HeadHolds) :
    (modHead p h f).time = p.time := rfl
@[simp] theorem modHead_rp (p : Part) (h : Side) (f : HeadHolds → HeadHolds) :
    (modHead p h f).rp = p.rp := rfl
@[simp] theorem modHead_cu (p : Part) (h : Side) (f : HeadHolds → HeadHolds) :
    (modHead p h f).cu = p.cu := rfl
@[simp] theorem modHead_bm (p : Part) (h : Side) (f : HeadHolds → HeadHolds) :
    (modHead p h f).bm = p.bm := rfl
@[simp] theorem modHead_map (p : Part) (h : Side) (f : HeadHolds → HeadHolds) :
    (modHead p h f).map = p.map := rfl
@[simp] theorem modHead_store (p : Part) (h : Side) (f : HeadHolds → HeadHolds) :
    (modHead p h f).store = p.store := rfl
@[simp] theorem modHead_st (p : Part) (h : Side) (f : HeadHolds → HeadHolds) :
    (modHead p h f).st = p.st := rfl
@[simp] theorem modHead_pru (p : Part) (h : Side) (f : HeadHolds → HeadHolds) :
    (modHead p h f).pru = p.pru := rfl

@[simp] theorem setInMap_time (p : Part) (m : Vector InSlot 40) :
    (setInMap p m).time = p.time := rfl
@[simp] theorem setInMap_rp (p : Part) (m : Vector InSlot 40) : (setInMap p m).rp = p.rp := rfl
@[simp] theorem setInMap_cu (p : Part) (m : Vector InSlot 40) : (setInMap p m).cu = p.cu := rfl
@[simp] theorem setInMap_bm (p : Part) (m : Vector InSlot 40) : (setInMap p m).bm = p.bm := rfl
@[simp] theorem setInMap_map (p : Part) (m : Vector InSlot 40) : (setInMap p m).map = p.map := rfl
@[simp] theorem setInMap_store (p : Part) (m : Vector InSlot 40) :
    (setInMap p m).store = p.store := rfl
@[simp] theorem setInMap_pru (p : Part) (m : Vector InSlot 40) : (setInMap p m).pru = p.pru := rfl
@[simp] theorem setInMap_ahu (p : Part) (m : Vector InSlot 40) : (setInMap p m).ahu = p.ahu := rfl

@[simp] theorem setAlarms_time (p : Part) (as : List Alarm) :
    (setAlarms p as).time = p.time := rfl
@[simp] theorem setAlarms_rp (p : Part) (as : List Alarm) : (setAlarms p as).rp = p.rp := rfl
@[simp] theorem setAlarms_cu (p : Part) (as : List Alarm) : (setAlarms p as).cu = p.cu := rfl
@[simp] theorem setAlarms_bm (p : Part) (as : List Alarm) : (setAlarms p as).bm = p.bm := rfl
@[simp] theorem setAlarms_map (p : Part) (as : List Alarm) : (setAlarms p as).map = p.map := rfl
@[simp] theorem setAlarms_store (p : Part) (as : List Alarm) :
    (setAlarms p as).store = p.store := rfl
@[simp] theorem setAlarms_st (p : Part) (as : List Alarm) : (setAlarms p as).st = p.st := rfl
@[simp] theorem setAlarms_pru (p : Part) (as : List Alarm) : (setAlarms p as).pru = p.pru := rfl

@[simp] theorem setRing_time (p : Part) (up : Bool) : (setRing p up).time = p.time := rfl
@[simp] theorem setRing_cu (p : Part) (up : Bool) : (setRing p up).cu = p.cu := rfl
@[simp] theorem setRing_bm (p : Part) (up : Bool) : (setRing p up).bm = p.bm := rfl
@[simp] theorem setRing_map (p : Part) (up : Bool) : (setRing p up).map = p.map := rfl
@[simp] theorem setRing_store (p : Part) (up : Bool) : (setRing p up).store = p.store := rfl
@[simp] theorem setRing_st (p : Part) (up : Bool) : (setRing p up).st = p.st := rfl
@[simp] theorem setRing_pru (p : Part) (up : Bool) : (setRing p up).pru = p.pru := rfl
@[simp] theorem setRing_ahu (p : Part) (up : Bool) : (setRing p up).ahu = p.ahu := rfl

@[simp] theorem modWindows_time (p : Part) (l : Side) (f : Vector PullWindow 8 → Vector PullWindow 8) :
    (modWindows p l f).time = p.time := rfl
@[simp] theorem modWindows_rp (p : Part) (l : Side) (f : Vector PullWindow 8 → Vector PullWindow 8) :
    (modWindows p l f).rp = p.rp := rfl
@[simp] theorem modWindows_cu (p : Part) (l : Side) (f : Vector PullWindow 8 → Vector PullWindow 8) :
    (modWindows p l f).cu = p.cu := rfl
@[simp] theorem modWindows_bm (p : Part) (l : Side) (f : Vector PullWindow 8 → Vector PullWindow 8) :
    (modWindows p l f).bm = p.bm := rfl
@[simp] theorem modWindows_map (p : Part) (l : Side) (f : Vector PullWindow 8 → Vector PullWindow 8) :
    (modWindows p l f).map = p.map := rfl
@[simp] theorem modWindows_store (p : Part) (l : Side) (f : Vector PullWindow 8 → Vector PullWindow 8) :
    (modWindows p l f).store = p.store := rfl
@[simp] theorem modWindows_st (p : Part) (l : Side) (f : Vector PullWindow 8 → Vector PullWindow 8) :
    (modWindows p l f).st = p.st := rfl
@[simp] theorem modWindows_ahu (p : Part) (l : Side) (f : Vector PullWindow 8 → Vector PullWindow 8) :
    (modWindows p l f).ahu = p.ahu := rfl

@[simp] theorem modWindow_time (p : Part) (l : Side) (c : Fin 8) (f : PullWindow → PullWindow) :
    (modWindow p l c f).time = p.time := rfl
@[simp] theorem modWindow_rp (p : Part) (l : Side) (c : Fin 8) (f : PullWindow → PullWindow) :
    (modWindow p l c f).rp = p.rp := rfl
@[simp] theorem modWindow_cu (p : Part) (l : Side) (c : Fin 8) (f : PullWindow → PullWindow) :
    (modWindow p l c f).cu = p.cu := rfl
@[simp] theorem modWindow_bm (p : Part) (l : Side) (c : Fin 8) (f : PullWindow → PullWindow) :
    (modWindow p l c f).bm = p.bm := rfl
@[simp] theorem modWindow_map (p : Part) (l : Side) (c : Fin 8) (f : PullWindow → PullWindow) :
    (modWindow p l c f).map = p.map := rfl
@[simp] theorem modWindow_store (p : Part) (l : Side) (c : Fin 8) (f : PullWindow → PullWindow) :
    (modWindow p l c f).store = p.store := rfl
@[simp] theorem modWindow_st (p : Part) (l : Side) (c : Fin 8) (f : PullWindow → PullWindow) :
    (modWindow p l c f).st = p.st := rfl
@[simp] theorem modWindow_ahu (p : Part) (l : Side) (c : Fin 8) (f : PullWindow → PullWindow) :
    (modWindow p l c f).ahu = p.ahu := rfl

@[simp] theorem setPulls_time (p : Part) (l : List PendingPull) :
    (setPulls p l).time = p.time := rfl
@[simp] theorem setPulls_rp (p : Part) (l : List PendingPull) : (setPulls p l).rp = p.rp := rfl
@[simp] theorem setPulls_cu (p : Part) (l : List PendingPull) : (setPulls p l).cu = p.cu := rfl
@[simp] theorem setPulls_bm (p : Part) (l : List PendingPull) : (setPulls p l).bm = p.bm := rfl
@[simp] theorem setPulls_map (p : Part) (l : List PendingPull) : (setPulls p l).map = p.map := rfl
@[simp] theorem setPulls_store (p : Part) (l : List PendingPull) :
    (setPulls p l).store = p.store := rfl
@[simp] theorem setPulls_st (p : Part) (l : List PendingPull) : (setPulls p l).st = p.st := rfl
@[simp] theorem setPulls_ahu (p : Part) (l : List PendingPull) : (setPulls p l).ahu = p.ahu := rfl

@[simp] theorem followDeparture_time (p : Part) (b : List Alarm) (n : BitVec 16) :
    (followDeparture p b n).time = p.time := rfl
@[simp] theorem followDeparture_rp (p : Part) (b : List Alarm) (n : BitVec 16) :
    (followDeparture p b n).rp = p.rp := rfl
@[simp] theorem followDeparture_cu (p : Part) (b : List Alarm) (n : BitVec 16) :
    (followDeparture p b n).cu = p.cu := rfl
@[simp] theorem followDeparture_bm (p : Part) (b : List Alarm) (n : BitVec 16) :
    (followDeparture p b n).bm = p.bm := rfl
@[simp] theorem followDeparture_map (p : Part) (b : List Alarm) (n : BitVec 16) :
    (followDeparture p b n).map = p.map := rfl
@[simp] theorem followDeparture_store (p : Part) (b : List Alarm) (n : BitVec 16) :
    (followDeparture p b n).store = p.store := rfl
@[simp] theorem followDeparture_st (p : Part) (b : List Alarm) (n : BitVec 16) :
    (followDeparture p b n).st = p.st := rfl
@[simp] theorem followDeparture_pru (p : Part) (b : List Alarm) (n : BitVec 16) :
    (followDeparture p b n).pru = p.pru := rfl
@[simp] theorem followDeparture_ahu (p : Part) (b : List Alarm) (n : BitVec 16) :
    (followDeparture p b n).ahu = p.ahu := rfl

@[simp] theorem followJoin_time (p : Part) (b : List Alarm) (n : BitVec 16) :
    (followJoin p b n).time = p.time := rfl
@[simp] theorem followJoin_rp (p : Part) (b : List Alarm) (n : BitVec 16) :
    (followJoin p b n).rp = p.rp := rfl
@[simp] theorem followJoin_cu (p : Part) (b : List Alarm) (n : BitVec 16) :
    (followJoin p b n).cu = p.cu := rfl
@[simp] theorem followJoin_bm (p : Part) (b : List Alarm) (n : BitVec 16) :
    (followJoin p b n).bm = p.bm := rfl
@[simp] theorem followJoin_map (p : Part) (b : List Alarm) (n : BitVec 16) :
    (followJoin p b n).map = p.map := rfl
@[simp] theorem followJoin_store (p : Part) (b : List Alarm) (n : BitVec 16) :
    (followJoin p b n).store = p.store := rfl
@[simp] theorem followJoin_st (p : Part) (b : List Alarm) (n : BitVec 16) :
    (followJoin p b n).st = p.st := rfl
@[simp] theorem followJoin_pru (p : Part) (b : List Alarm) (n : BitVec 16) :
    (followJoin p b n).pru = p.pru := rfl
@[simp] theorem followJoin_ahu (p : Part) (b : List Alarm) (n : BitVec 16) :
    (followJoin p b n).ahu = p.ahu := rfl

@[simp] theorem followChange_time (p : Part) : (followChange p).time = p.time := rfl
@[simp] theorem followChange_rp (p : Part) : (followChange p).rp = p.rp := rfl
@[simp] theorem followChange_cu (p : Part) : (followChange p).cu = p.cu := rfl
@[simp] theorem followChange_bm (p : Part) : (followChange p).bm = p.bm := rfl
@[simp] theorem followChange_map (p : Part) : (followChange p).map = p.map := rfl
@[simp] theorem followChange_store (p : Part) : (followChange p).store = p.store := rfl
@[simp] theorem followChange_st (p : Part) : (followChange p).st = p.st := rfl
@[simp] theorem followChange_pru (p : Part) : (followChange p).pru = p.pru := rfl
@[simp] theorem followChange_ahu (p : Part) : (followChange p).ahu = p.ahu := rfl

/-! ## The alarm list -/

@[simp] theorem addReasons_time (p : Part) (k : AlarmKind) (s : AlarmSource) :
    (addReasons p k s).time = p.time := by
  simp [addReasons]
@[simp] theorem addReasons_rp (p : Part) (k : AlarmKind) (s : AlarmSource) :
    (addReasons p k s).rp = p.rp := by
  simp [addReasons]
@[simp] theorem addReasons_cu (p : Part) (k : AlarmKind) (s : AlarmSource) :
    (addReasons p k s).cu = p.cu := by
  simp [addReasons]
@[simp] theorem addReasons_bm (p : Part) (k : AlarmKind) (s : AlarmSource) :
    (addReasons p k s).bm = p.bm := by
  simp [addReasons]
@[simp] theorem addReasons_map (p : Part) (k : AlarmKind) (s : AlarmSource) :
    (addReasons p k s).map = p.map := by
  simp [addReasons]
@[simp] theorem addReasons_store (p : Part) (k : AlarmKind) (s : AlarmSource) :
    (addReasons p k s).store = p.store := by
  simp [addReasons]
@[simp] theorem addReasons_st (p : Part) (k : AlarmKind) (s : AlarmSource) :
    (addReasons p k s).st = p.st := by
  simp [addReasons]
@[simp] theorem addReasons_pru (p : Part) (k : AlarmKind) (s : AlarmSource) :
    (addReasons p k s).pru = p.pru := by
  simp [addReasons]

@[simp] theorem raiseNew_time (p : Part) (k : AlarmKind) (s : AlarmSource) (x : Option Subject) :
    (raiseNew p k s x).time = p.time := by
  simp [raiseNew]
@[simp] theorem raiseNew_cu (p : Part) (k : AlarmKind) (s : AlarmSource) (x : Option Subject) :
    (raiseNew p k s x).cu = p.cu := by
  simp [raiseNew]
@[simp] theorem raiseNew_bm (p : Part) (k : AlarmKind) (s : AlarmSource) (x : Option Subject) :
    (raiseNew p k s x).bm = p.bm := by
  simp [raiseNew]
@[simp] theorem raiseNew_map (p : Part) (k : AlarmKind) (s : AlarmSource) (x : Option Subject) :
    (raiseNew p k s x).map = p.map := by
  simp [raiseNew]
@[simp] theorem raiseNew_store (p : Part) (k : AlarmKind) (s : AlarmSource) (x : Option Subject) :
    (raiseNew p k s x).store = p.store := by
  simp [raiseNew]
@[simp] theorem raiseNew_st (p : Part) (k : AlarmKind) (s : AlarmSource) (x : Option Subject) :
    (raiseNew p k s x).st = p.st := by
  simp [raiseNew]
@[simp] theorem raiseNew_pru (p : Part) (k : AlarmKind) (s : AlarmSource) (x : Option Subject) :
    (raiseNew p k s x).pru = p.pru := by
  simp [raiseNew]

@[simp] theorem raiseAgain_time (p : Part) (k : AlarmKind) (s : AlarmSource) (x : Option Subject) (a : Alarm) :
    (raiseAgain p k s x a).time = p.time := by
  simp [raiseAgain]
@[simp] theorem raiseAgain_cu (p : Part) (k : AlarmKind) (s : AlarmSource) (x : Option Subject) (a : Alarm) :
    (raiseAgain p k s x a).cu = p.cu := by
  simp [raiseAgain]
@[simp] theorem raiseAgain_bm (p : Part) (k : AlarmKind) (s : AlarmSource) (x : Option Subject) (a : Alarm) :
    (raiseAgain p k s x a).bm = p.bm := by
  simp [raiseAgain]
@[simp] theorem raiseAgain_map (p : Part) (k : AlarmKind) (s : AlarmSource) (x : Option Subject) (a : Alarm) :
    (raiseAgain p k s x a).map = p.map := by
  simp [raiseAgain]
@[simp] theorem raiseAgain_store (p : Part) (k : AlarmKind) (s : AlarmSource) (x : Option Subject) (a : Alarm) :
    (raiseAgain p k s x a).store = p.store := by
  simp [raiseAgain]
@[simp] theorem raiseAgain_st (p : Part) (k : AlarmKind) (s : AlarmSource) (x : Option Subject) (a : Alarm) :
    (raiseAgain p k s x a).st = p.st := by
  simp [raiseAgain]
@[simp] theorem raiseAgain_pru (p : Part) (k : AlarmKind) (s : AlarmSource) (x : Option Subject) (a : Alarm) :
    (raiseAgain p k s x a).pru = p.pru := by
  simp [raiseAgain]

@[simp] theorem raiseAlarm_time (p : Part) (k : AlarmKind) (s : AlarmSource) (x : Option Subject) :
    (raiseAlarm p k s x).time = p.time := by
  unfold raiseAlarm; split <;> simp
@[simp] theorem raiseAlarm_cu (p : Part) (k : AlarmKind) (s : AlarmSource) (x : Option Subject) :
    (raiseAlarm p k s x).cu = p.cu := by
  unfold raiseAlarm; split <;> simp
@[simp] theorem raiseAlarm_bm (p : Part) (k : AlarmKind) (s : AlarmSource) (x : Option Subject) :
    (raiseAlarm p k s x).bm = p.bm := by
  unfold raiseAlarm; split <;> simp
@[simp] theorem raiseAlarm_map (p : Part) (k : AlarmKind) (s : AlarmSource) (x : Option Subject) :
    (raiseAlarm p k s x).map = p.map := by
  unfold raiseAlarm; split <;> simp
@[simp] theorem raiseAlarm_store (p : Part) (k : AlarmKind) (s : AlarmSource) (x : Option Subject) :
    (raiseAlarm p k s x).store = p.store := by
  unfold raiseAlarm; split <;> simp
@[simp] theorem raiseAlarm_st (p : Part) (k : AlarmKind) (s : AlarmSource) (x : Option Subject) :
    (raiseAlarm p k s x).st = p.st := by
  unfold raiseAlarm; split <;> simp
@[simp] theorem raiseAlarm_pru (p : Part) (k : AlarmKind) (s : AlarmSource) (x : Option Subject) :
    (raiseAlarm p k s x).pru = p.pru := by
  unfold raiseAlarm; split <;> simp

@[simp] theorem takeOutAlarm_time (p : Part) (a : Alarm) :
    (takeOutAlarm p a).time = p.time := by
  simp [takeOutAlarm]
@[simp] theorem takeOutAlarm_rp (p : Part) (a : Alarm) :
    (takeOutAlarm p a).rp = p.rp := by
  simp [takeOutAlarm]
@[simp] theorem takeOutAlarm_cu (p : Part) (a : Alarm) :
    (takeOutAlarm p a).cu = p.cu := by
  simp [takeOutAlarm]
@[simp] theorem takeOutAlarm_bm (p : Part) (a : Alarm) :
    (takeOutAlarm p a).bm = p.bm := by
  simp [takeOutAlarm]
@[simp] theorem takeOutAlarm_map (p : Part) (a : Alarm) :
    (takeOutAlarm p a).map = p.map := by
  simp [takeOutAlarm]
@[simp] theorem takeOutAlarm_store (p : Part) (a : Alarm) :
    (takeOutAlarm p a).store = p.store := by
  simp [takeOutAlarm]
@[simp] theorem takeOutAlarm_st (p : Part) (a : Alarm) :
    (takeOutAlarm p a).st = p.st := by
  simp [takeOutAlarm]
@[simp] theorem takeOutAlarm_pru (p : Part) (a : Alarm) :
    (takeOutAlarm p a).pru = p.pru := by
  simp [takeOutAlarm]

@[simp] theorem removeAbsent_time (p : Part) (i : Fin 4) :
    (removeAbsent p i).time = p.time := by
  unfold removeAbsent; split <;> simp
@[simp] theorem removeAbsent_cu (p : Part) (i : Fin 4) :
    (removeAbsent p i).cu = p.cu := by
  unfold removeAbsent; split <;> simp
@[simp] theorem removeAbsent_bm (p : Part) (i : Fin 4) :
    (removeAbsent p i).bm = p.bm := by
  unfold removeAbsent; split <;> simp
@[simp] theorem removeAbsent_map (p : Part) (i : Fin 4) :
    (removeAbsent p i).map = p.map := by
  unfold removeAbsent; split <;> simp
@[simp] theorem removeAbsent_store (p : Part) (i : Fin 4) :
    (removeAbsent p i).store = p.store := by
  unfold removeAbsent; split <;> simp
@[simp] theorem removeAbsent_st (p : Part) (i : Fin 4) :
    (removeAbsent p i).st = p.st := by
  unfold removeAbsent; split <;> simp
@[simp] theorem removeAbsent_pru (p : Part) (i : Fin 4) :
    (removeAbsent p i).pru = p.pru := by
  unfold removeAbsent; split <;> simp

/-! ## The store queue -/

@[simp] theorem enqueue_time (p : Part) (r : Request) :
    (enqueue p r).time = p.time := by
  unfold enqueue; dsimp only; split <;> rfl
@[simp] theorem enqueue_rp (p : Part) (r : Request) :
    (enqueue p r).rp = p.rp := by
  unfold enqueue; dsimp only; split <;> rfl
@[simp] theorem enqueue_cu (p : Part) (r : Request) :
    (enqueue p r).cu = p.cu := by
  unfold enqueue; dsimp only; split <;> rfl
@[simp] theorem enqueue_bm (p : Part) (r : Request) :
    (enqueue p r).bm = p.bm := by
  unfold enqueue; dsimp only; split <;> rfl
@[simp] theorem enqueue_map (p : Part) (r : Request) :
    (enqueue p r).map = p.map := by
  unfold enqueue; dsimp only; split <;> rfl
@[simp] theorem enqueue_st (p : Part) (r : Request) :
    (enqueue p r).st = p.st := by
  unfold enqueue; dsimp only; split <;> rfl
@[simp] theorem enqueue_pru (p : Part) (r : Request) :
    (enqueue p r).pru = p.pru := by
  unfold enqueue; dsimp only; split <;> rfl
@[simp] theorem enqueue_ahu (p : Part) (r : Request) :
    (enqueue p r).ahu = p.ahu := by
  unfold enqueue; dsimp only; split <;> rfl
@[simp] theorem enqueue_pnc (p : Part) (r : Request) :
    (enqueue p r).pnc = p.pnc := by
  unfold enqueue; dsimp only; split <;> rfl

@[simp] theorem startFetch_time (p : Part) (k : MapKey) (w : List Waiter) :
    (startFetch p k w).time = p.time := by
  simp [startFetch]
@[simp] theorem startFetch_rp (p : Part) (k : MapKey) (w : List Waiter) :
    (startFetch p k w).rp = p.rp := by
  simp [startFetch]
@[simp] theorem startFetch_cu (p : Part) (k : MapKey) (w : List Waiter) :
    (startFetch p k w).cu = p.cu := by
  simp [startFetch]
@[simp] theorem startFetch_bm (p : Part) (k : MapKey) (w : List Waiter) :
    (startFetch p k w).bm = p.bm := by
  simp [startFetch]
@[simp] theorem startFetch_st (p : Part) (k : MapKey) (w : List Waiter) :
    (startFetch p k w).st = p.st := by
  simp [startFetch]
@[simp] theorem startFetch_pru (p : Part) (k : MapKey) (w : List Waiter) :
    (startFetch p k w).pru = p.pru := by
  simp [startFetch]
@[simp] theorem startFetch_ahu (p : Part) (k : MapKey) (w : List Waiter) :
    (startFetch p k w).ahu = p.ahu := by
  simp [startFetch]
@[simp] theorem startFetch_pnc (p : Part) (k : MapKey) (w : List Waiter) :
    (startFetch p k w).pnc = p.pnc := by
  simp [startFetch]

@[simp] theorem writeBondRecord_time (p : Part) (c : Context) (j : Judgement) (s : Side) :
    (writeBondRecord p c j s).time = p.time := by
  unfold writeBondRecord; dsimp only; split <;> simp
@[simp] theorem writeBondRecord_cu (p : Part) (c : Context) (j : Judgement) (s : Side) :
    (writeBondRecord p c j s).cu = p.cu := by
  unfold writeBondRecord; dsimp only; split <;> simp
@[simp] theorem writeBondRecord_map (p : Part) (c : Context) (j : Judgement) (s : Side) :
    (writeBondRecord p c j s).map = p.map := by
  unfold writeBondRecord; dsimp only; split <;> simp
@[simp] theorem writeBondRecord_st (p : Part) (c : Context) (j : Judgement) (s : Side) :
    (writeBondRecord p c j s).st = p.st := by
  unfold writeBondRecord; dsimp only; split <;> simp
@[simp] theorem writeBondRecord_pru (p : Part) (c : Context) (j : Judgement) (s : Side) :
    (writeBondRecord p c j s).pru = p.pru := by
  unfold writeBondRecord; dsimp only; split <;> simp
@[simp] theorem writeBondRecord_ahu (p : Part) (c : Context) (j : Judgement) (s : Side) :
    (writeBondRecord p c j s).ahu = p.ahu := by
  unfold writeBondRecord; dsimp only; split <;> simp
@[simp] theorem writeBondRecord_pnc (p : Part) (c : Context) (j : Judgement) (s : Side) :
    (writeBondRecord p c j s).pnc = p.pnc := by
  unfold writeBondRecord; dsimp only; split <;> simp

@[simp] theorem writePullRecord_time (p : Part) (r : PullRecord) :
    (writePullRecord p r).time = p.time := by
  unfold writePullRecord; dsimp only; split <;> simp
@[simp] theorem writePullRecord_cu (p : Part) (r : PullRecord) :
    (writePullRecord p r).cu = p.cu := by
  unfold writePullRecord; dsimp only; split <;> simp
@[simp] theorem writePullRecord_bm (p : Part) (r : PullRecord) :
    (writePullRecord p r).bm = p.bm := by
  unfold writePullRecord; dsimp only; split <;> simp
@[simp] theorem writePullRecord_map (p : Part) (r : PullRecord) :
    (writePullRecord p r).map = p.map := by
  unfold writePullRecord; dsimp only; split <;> simp
@[simp] theorem writePullRecord_st (p : Part) (r : PullRecord) :
    (writePullRecord p r).st = p.st := by
  unfold writePullRecord; dsimp only; split <;> simp
@[simp] theorem writePullRecord_pru (p : Part) (r : PullRecord) :
    (writePullRecord p r).pru = p.pru := by
  unfold writePullRecord; dsimp only; split <;> simp
@[simp] theorem writePullRecord_ahu (p : Part) (r : PullRecord) :
    (writePullRecord p r).ahu = p.ahu := by
  unfold writePullRecord; dsimp only; split <;> simp
@[simp] theorem writePullRecord_pnc (p : Part) (r : PullRecord) :
    (writePullRecord p r).pnc = p.pnc := by
  unfold writePullRecord; dsimp only; split <;> simp

end Sys2Proof.Machine
end

