-- ==== Sys2Proof/Laws/Shared.lean ====
section
/-! SUPPORT. What each shared operation can do, said once: the outbound queue, the alarm list, the store
queue, and the step. -/

namespace Sys2Proof.Machine

/-! ## The outbound queue -/

@[simp] theorem queueParcel_outbound (p : Part) (q : Parcel) :
    (queueParcel p q).rp.outbound = p.rp.outbound ++ [q] := rfl

@[simp] theorem queueParcel_reservations (p : Part) (q : Parcel) :
    (queueParcel p q).rp.reservations = p.rp.reservations := rfl

/-- A notice offered takes a tag, and is queued or counted as dropped. -/
theorem offerNotice_cases (p : Part) (k : Nat) (x : List Byte) :
    (noticeCount p < noticePlaces ∧ outboundTotal p < outboundPlaces ∧
      (offerNotice p k x).rp =
        { p.rp with
          noticeTag := p.rp.noticeTag + 1
          outbound := p.rp.outbound ++ [⟨0x12, ownStation p, 0, p.rp.noticeTag, oneByte k :: x⟩] }) ∨
    (¬(noticeCount p < noticePlaces ∧ outboundTotal p < outboundPlaces) ∧
      (offerNotice p k x).rp =
        { p.rp with
          noticeTag := p.rp.noticeTag + 1
          counters := { p.rp.counters with noticesDropped := inc p.rp.counters.noticesDropped } }) := by
  unfold offerNotice
  by_cases h : noticeCount p < noticePlaces ∧ outboundTotal p < outboundPlaces
  · refine .inl ⟨h.1, h.2, ?_⟩
    simp [h.1, h.2, queueParcel]
  · refine .inr ⟨h, ?_⟩
    have hb : (decide (noticeCount p < noticePlaces) && decide (outboundTotal p < outboundPlaces)) = false := by
      simpa [not_and] using h
    simp [hb, countRing]

@[simp] theorem offerNotice_reservations (p : Part) (k : Nat) (x : List Byte) :
    (offerNotice p k x).rp.reservations = p.rp.reservations := by
  rcases offerNotice_cases p k x with ⟨-, -, h⟩ | ⟨-, h⟩ <;> rw [h]

@[simp] theorem offerNotice_station (p : Part) (k : Nat) (x : List Byte) :
    (offerNotice p k x).rp.station = p.rp.station := by
  rcases offerNotice_cases p k x with ⟨-, -, h⟩ | ⟨-, h⟩ <;> rw [h]

@[simp] theorem giveReply_outbound (p : Part) (k : Byte) (a : Ask) (pl : List Byte) :
    (giveReply p k a pl).rp.outbound =
      p.rp.outbound ++ [⟨k, ownStation p, a.station, a.tag, sentPayload pl⟩] := rfl

@[simp] theorem giveReply_reservations (p : Part) (k : Byte) (a : Ask) (pl : List Byte) :
    (giveReply p k a pl).rp.reservations = p.rp.reservations - 1 := rfl

@[simp] theorem giveReply_station (p : Part) (k : Byte) (a : Ask) (pl : List Byte) :
    (giveReply p k a pl).rp.station = p.rp.station := rfl

/-- No payload that is sent is longer than a parcel can carry. -/
theorem sentPayload_length (pl : List Byte) : (sentPayload pl).length ≤ maxPayload := by
  unfold sentPayload
  split
  · assumption
  · simp only [List.length_append, List.length_take, replyHead, maxPayload]; omega

/-- A reply that is too long keeps its command code, status and reason (R175). -/
theorem sentPayload_head (pl : List Byte) : (sentPayload pl).take replyHead = pl.take replyHead := by
  unfold sentPayload
  split
  · rfl
  · next h =>
    have h3 : (pl.take replyHead).length = replyHead := by
      simp only [List.length_take, replyHead, maxPayload] at *; omega
    rw [List.take_append_of_le_length (by omega), List.take_of_length_le (by omega)]

/-! ## The marks of dirty lines -/

/-- Marking the lines of a change leaves everything of the panels' controller but the panels. -/
theorem tracked_pnc (f : Part → Part) (p : Part) :
    (tracked f p).pnc = { (f p).pnc with panels := (tracked f p).pnc.panels } := rfl

/-- Marking the lines of a change leaves everything of a panel but its dirty lines. -/
theorem tracked_panel (f : Part → Part) (p : Part) (i : Fin 4) :
    (tracked f p).pnc.panels.get i =
      { (f p).pnc.panels.get i with dirty := ((tracked f p).pnc.panels.get i).dirty } := by
  simp only [tracked, markLive, modPanels, setPnc_pnc, vmap_get]
  split <;> rfl

/-- A line that is dirty stays dirty when the lines of a change are marked. -/
theorem tracked_dirty (f : Part → Part) (p : Part) (i : Fin 4) (l : Fin 8)
    (h : l ∈ ((f p).pnc.panels.get i).dirty) : l ∈ ((tracked f p).pnc.panels.get i).dirty := by
  simp only [tracked, markLive, modPanels, setPnc_pnc, vmap_get]
  split
  · have hl : ∀ l : Fin 8, l ∈ allLines := by decide
    simp [markLines, hl l, h]
  · exact h

@[simp] theorem modLane_st (p : Part) (l : Side) (f : Lane → Lane) :
    (modLane p l f).st = { p.st with lanes := p.st.lanes.set l (f (p.st.lanes.get l)) } := rfl

@[simp] theorem modHead_ahu (p : Part) (h : Side) (f : HeadHolds → HeadHolds) :
    (modHead p h f).ahu = { p.ahu with heads := p.ahu.heads.set h (f (p.ahu.heads.get h)) } := rfl

@[simp] theorem setInMap_st (p : Part) (m : Vector InSlot 40) :
    (setInMap p m).st = { p.st with inMap := m } := rfl

@[simp] theorem setAlarms_ahu (p : Part) (as : List Alarm) :
    (setAlarms p as).ahu = { p.ahu with alarms := as } := rfl

@[simp] theorem setRing_rp (p : Part) (up : Bool) : (setRing p up).rp = { p.rp with up := up } := rfl

@[simp] theorem modWindows_pru (p : Part) (l : Side) (f : Vector PullWindow 8 → Vector PullWindow 8) :
    (modWindows p l f).pru =
      { p.pru with windows := p.pru.windows.set l (f (p.pru.windows.get l)) } := rfl

@[simp] theorem setPulls_pru (p : Part) (l : List PendingPull) :
    (setPulls p l).pru = { p.pru with pulls := l } := rfl

/-! ## The alarm list -/

@[simp] theorem addReasons_alarms (p : Part) (k : AlarmKind) (s : AlarmSource) :
    (addReasons p k s).ahu.alarms = p.ahu.alarms := by
  simp [addReasons, modFeeder]

@[simp] theorem addReasons_nextNumber (p : Part) (k : AlarmKind) (s : AlarmSource) :
    (addReasons p k s).ahu.nextNumber = p.ahu.nextNumber := by
  simp [addReasons, modFeeder]

/-- A new entry joins the tail of the list. -/
@[simp] theorem raiseNew_alarms (p : Part) (k : AlarmKind) (s : AlarmSource) (x : Option Subject) :
    (raiseNew p k s x).ahu.alarms =
      p.ahu.alarms ++ [⟨p.ahu.nextNumber, k, s, x, 1, p.time, p.time⟩] := by
  simp [raiseNew, countAlarms]

/-- A coalesced raise changes the entries of its kind and source alone. -/
@[simp] theorem raiseAgain_alarms (p : Part) (k : AlarmKind) (s : AlarmSource) (x : Option Subject)
    (a : Alarm) :
    (raiseAgain p k s x a).ahu.alarms =
      p.ahu.alarms.map fun b => if sameAlarm k s b then coalesced p.time x b else b := by
  simp [raiseAgain, countAlarms]

/-- An entry that leaves the list takes every entry of its number with it. -/
@[simp] theorem takeOutAlarm_alarms (p : Part) (a : Alarm) :
    (takeOutAlarm p a).ahu.alarms = p.ahu.alarms.filter fun b => b.number != a.number := by
  simp [takeOutAlarm]

/-! ## The store queue -/

/-- A request handed in joins the tail, and makes a READY store BUSY. -/
theorem enqueue_spec (p : Part) (r : Request) :
    (enqueue p r).store.queue = p.store.queue ++ [r] ∧
    (enqueue p r).store.state = (if p.store.state = .ready then .busy else p.store.state) ∧
    (enqueue p r).store.config = p.store.config ∧
    (enqueue p r).store.wb = p.store.wb ∧ (enqueue p r).store.wp = p.store.wp := by
  unfold enqueue
  dsimp only
  split <;> simp

/-- As a request behind the head leaves a draining queue, the head and those behind the request stay. -/
theorem leaveBehindHead_queue (p : Part) (head r : Request) (rest : List Request)
    (h : p.store.queue = head :: r :: rest) :
    (leaveBehindHead p).store = { p.store with queue := head :: rest } := by
  simp [leaveBehindHead, h]

/-! ## The step -/

/-- The cases of a step: a millisecond on an empty queue, or the command at the front. -/
theorem step_cases (s : State) :
    (s.pending = [] ∧ step s = .next { s with part := passMs s.part }) ∨
    (∃ c cs, s.pending = c :: cs ∧ step s = exec c { s with pending := cs }) := by
  unfold step
  cases h : s.pending with
  | nil => exact .inl ⟨rfl, rfl⟩
  | cons c cs => exact .inr ⟨c, cs, rfl, rfl⟩

/-! ## Power-on reset -/

/-- While RESET is asserted both hold lines are asserted (R131). -/
@[simp] theorem resetAsserted_holdLine (p : Part) (h : Side) : holdLine (resetAsserted p) h = true := by
  cases h <;> rfl

/-- What a power-on reset leaves is the part at its power-on values with the station number latched. -/
theorem resetEnds_resetAsserted (straps : BitVec 5) (p : Part) :
    resetEnds straps (resetAsserted p) = { rp := { station := strapNumber straps } } := rfl

/-! ## Receiving (R139, R143) -/

/-- A character that began after every line form is marked by the settings now held. -/
@[simp] theorem settingsBefore_zero (c : PanelController) : settingsBefore c 0 = c.settings := by
  simp [settingsBefore]

/-- After a line form, the settings before `n + 1` forms are those that were before `n`. -/
theorem settingsBefore_configLine (p : Part) (a : LineSettings) (n : Nat) :
    settingsBefore (configLine p a).pnc (n + 1) =
      (p.pnc.settings :: p.pnc.prior).getD (min n p.pnc.prior.length) a := by
  simp [settingsBefore, configLine, setPnc]

@[simp] theorem endReception_prior (p : Part) : (endReception p).pnc.prior = [] := rfl
@[simp] theorem endReception_settings (p : Part) :
    (endReception p).pnc.settings = p.pnc.settings := rfl
@[simp] theorem endReception_walk (p : Part) : (endReception p).pnc.walk = p.pnc.walk := rfl
@[simp] theorem endReception_strays (p : Part) : (endReception p).pnc.strays = p.pnc.strays := rfl

/-- A received character changes the Panel Controller alone. -/
theorem receiveChar_pnc (p : Part) (x : RxChar) :
    receiveChar p x = { p with pnc := (receiveChar p x).pnc } := by
  unfold receiveChar
  split <;> rfl

end Sys2Proof.Machine
end

