-- ==== Sys2Proof/Laws/Sram.lean ====
section
/-! SUPPORT. The laws of the SRAM: a read after a write, and the canonical form kept by every write. -/

namespace Sys2Proof.Machine

/-! ## A read after a write -/

theorem sramRead_write_same (m : Sram) (a : Nat) (b : Byte) : sramRead (sramWrite m a b) a = some b := by
  induction m with
  | nil => simp [sramWrite, sramRead]
  | cons c m ih =>
    obtain ⟨x, y⟩ := c
    unfold sramWrite
    split
    · simp [sramRead]
    · split
      · simp [sramRead]
      · rename_i h
        simp [sramRead, Ne.symm h, ih]

theorem sramRead_write_other (m : Sram) (a k : Nat) (b : Byte) (h : k ≠ a) :
    sramRead (sramWrite m a b) k = sramRead m k := by
  induction m with
  | nil => simp [sramWrite, sramRead, Ne.symm h]
  | cons c m ih =>
    obtain ⟨x, y⟩ := c
    unfold sramWrite
    split
    · simp [sramRead, Ne.symm h]
    · split
      · rename_i e
        subst e
        simp [sramRead, Ne.symm h]
      · simp only [sramRead, ih]

/-- A write of several bytes leaves every address outside them as it was. -/
theorem sramRead_writeAll_outside (bs : List Byte) : ∀ (m : Sram) (a k : Nat),
    (k < a ∨ a + bs.length ≤ k) → sramRead (sramWriteAll m a bs) k = sramRead m k := by
  induction bs with
  | nil => intro m a k _; rfl
  | cons b bs ih =>
    intro m a k h
    simp only [List.length_cons] at h
    rw [sramWriteAll, ih _ _ _ (by omega), sramRead_write_other _ _ _ _ (by omega)]

/-- A write of several bytes leaves each of them at its address. -/
theorem sramRead_writeAll_inside (bs : List Byte) : ∀ (m : Sram) (a i : Nat) (h : i < bs.length),
    sramRead (sramWriteAll m a bs) (a + i) = some bs[i] := by
  induction bs with
  | nil => intro m a i h; exact absurd h (by simp)
  | cons b bs ih =>
    intro m a i h
    cases i with
    | zero =>
      rw [sramWriteAll, sramRead_writeAll_outside _ _ _ _ (by omega)]
      exact sramRead_write_same m a b
    | succ i =>
      have hi : i < bs.length := by simpa using h
      have e : a + (i + 1) = (a + 1) + i := by omega
      rw [sramWriteAll, e, ih _ _ _ hi]
      rfl

/-! ## The canonical form -/

/-- Every address of the list is above `a`. -/
def Above (a : Nat) : Sram → Prop
  | [] => True
  | (x, _) :: _ => a < x

theorem sramWf_cons (x : Nat) (y : Byte) (m : Sram) :
    sramWf ((x, y) :: m) = true ↔ Above x m ∧ sramWf m = true := by
  cases m with
  | nil => simp [sramWf, Above]
  | cons c m => simp [sramWf, Above]

theorem above_write (k a : Nat) (b : Byte) (m : Sram) (h : Above k m) (ha : k < a) :
    Above k (sramWrite m a b) := by
  cases m with
  | nil => exact ha
  | cons c m =>
    obtain ⟨x, y⟩ := c
    unfold sramWrite
    split
    · exact ha
    · split
      · exact ha
      · exact h

/-- A write keeps the canonical form. -/
theorem sramWrite_wf (m : Sram) (a : Nat) (b : Byte) (h : Memory.wf m) : Memory.wf (sramWrite m a b) := by
  induction m with
  | nil => rfl
  | cons c m ih =>
    obtain ⟨x, y⟩ := c
    obtain ⟨habove, hwf⟩ := (sramWf_cons x y m).1 h
    unfold sramWrite
    split
    · rename_i hlt
      exact (sramWf_cons a b _).2 ⟨hlt, h⟩
    · split
      · rename_i e
        subst e
        exact (sramWf_cons a b m).2 ⟨habove, hwf⟩
      · exact (sramWf_cons x y _).2 ⟨above_write x a b m habove (by omega), ih hwf⟩

/-- A write of several bytes keeps the canonical form. -/
theorem sramWriteAll_wf (bs : List Byte) : ∀ (m : Sram) (a : Nat), Memory.wf m →
    Memory.wf (sramWriteAll m a bs) := by
  induction bs with
  | nil => intro m a h; exact h
  | cons b bs ih => intro m a h; exact ih _ _ (sramWrite_wf m a b h)

/-- The SRAM of the state after reset is in canonical form. -/
theorem reset_sram_wf : Memory.wf State.reset.sram := rfl

end Sys2Proof.Machine
end

