-- ==== Sys2Proof/Tests/Slice0.lean ====
section
/-! SUPPORT. Small tests of the model against figures of the spec, and for each statement with hypotheses a
named witness that meets them. -/

namespace Sys2Proof.Tests

set_option Elab.async false

open Sys2Proof.Machine

/-! ## Small states -/

/-- The part after reset with one change. -/
def partOf (f : Part → Part) : Part := f State.reset.part

/-- The state after reset with one change of the part. -/
def stateOf (f : Part → Part) : State := { State.reset with part := partOf f }

/-- The outcome of a command is a next state that satisfies `q`. -/
def nextIs (q : State → Bool) : Host.Outcome State Fault Refusal → Bool
  | .next t => q t
  | _ => false

/-- A sealed frame of 64 bytes of parcel area that carries the bytes given. -/
def frameOf (bs : List Byte) : Frame :=
  sealFrame ⟨5, 64, BitVec.ofNat 16 bs.length, 0, bs ++ List.replicate (64 - bs.length) 0, 0⟩

/-- A store of 16-bit width laid out as Section 3.9 has it, in a state. -/
def storeAt (x : StoreState) (q : List Request) (p : Part) : Part :=
  setStore p { p.store with
    config := ⟨some .sixteen, false, some 1, some 10, 0, 16384, 1024, 40960, 256⟩
    state := x, queue := q, wb := 10238 }

/-- A MAP_WRITE request of the entry of bank 0 and wire 5. -/
def mapWriteAt20 : Request := { kind := .mapWrite, addr := 20, len := 4, data := [1, 7, 9, 0xFF] }

/-- A MAP_READ request of the same entry. -/
def mapReadAt20 : Request := { kind := .mapRead, addr := 20, len := 4, data := [] }

/-- A pending pull of strip 3. -/
def pullOf (age : Nat) : PendingPull :=
  ⟨3, .zero, 1, 2, none, none, false, age, .settled (some 4)⟩

/-- Lane 0's deadline is one minute, and one pull of that age is pending. -/
def duePart (p : Part) : Part :=
  setPru p { p.pru with plans := ⟨{ deadline := 1 }, {}⟩, pulls := [pullOf 1] }

/-- A result's alarm of a kind and source, numbered `n`. -/
def alarmOf (n : BitVec 16) (k : AlarmKind) (src : AlarmSource) : Alarm := ⟨n, k, src, none, 255, 0, 0⟩

/-- The alarm list holds these entries. -/
def withAlarms (as : List Alarm) (p : Part) : Part := setAhu p { p.ahu with alarms := as }

/-- The panel line is in this state, with panel 1 enabled and polled at entry 0. -/
def panelsAt (w : WalkState) (p : Part) : Part :=
  let p := modPanel p 0 fun x => { x with enabled := true, head := some .zero, selection := some 2 }
  setPnc p { p.pnc with poll := vset p.pnc.poll 0 (some 0), walk := w }

/-- A turn of panel 1. -/
def turnOf (lines : Nat) (m : Message) : Turn := ⟨0, lines, m, false⟩

/-- An open reply window of panel 1 that has collected these characters. -/
def windowOf (cs : List RxMarked) : ReplyWindow := ⟨0, cs, 8, {}, false⟩

/-- A character without errors. -/
def rxOf (b : Byte) : RxMarked := ⟨⟨b, false⟩, false, false⟩

/-- The closed context of Section 1.7.1, with the accumulator and the two current sums given. -/
def bondOf (power first : Nat) (last : List Nat) : Context :=
  { head := .zero, sequence := 1, phase := .ball, wire := 5, unitRef := none, bank := 0
    touchdown := 180, accepted := 400, expected := 400, power := power, firstEight := first
    lastEight := last, z0 := some 40250, lastHeight := some 40130, marks := {}
    closedByOpen := false, lookup := .pending, state := .closed }

/-- The window of Section 1.7.1. -/
def window171 : PhaseWindow :=
  { energyMin := 12000, energyMax := 17000, deformMin := 80, deformMax := 160, stickBand := 24
    minSamples := 200 }

/-- The bond groups of Section 1.7.1, all alike. -/
def groups171 : Vector BondGroup 64 := Vector.replicate 64 ⟨true, window171, {}⟩

/-- The wire's map entry of Section 1.7.1. -/
def entry171 : Resolution := .entry ⟨true, 3, 3, none⟩

/-- Channel 0 with four contexts of these states, none of them FREE. -/
def channelOf (x : CtxState) (p : Part) : Part :=
  let c := some { bondOf 57600000 4000 (List.replicate 8 400) with state := x }
  modChannel p .zero fun ch => { ch with contexts := Vector.replicate 4 c, order := [0, 1, 2, 3] }

/-- The judgement of Section 1.7.1. -/
def judged171 : Judgement := judgement groups171 (bondOf 57600000 4000 (List.replicate 8 400)) entry171

/-- A strip of two units at lane 0's BOND position, and head 0 not held. -/
def strips (us : List UnitEntry) (p : Part) : Part :=
  let p := modHead p .zero fun _ => { laneOff := false }
  modLane p .zero fun l => { l with bond := some { number := 3, slot := 1, lane := .zero, units := us } }

/-- Both feeders free, the slots 2 and 5 LOADED, and a FEED_ASK deferred for each lane named. -/
def feeds (a b : Bool) (p : Part) : Part :=
  let ask : FeedAsk := ⟨⟨4, 9⟩, false⟩
  let p := setAhu p { p.ahu with feeders := Two.both { laneOff := false } }
  let p := modLane p .zero fun l => { l with feedAsk := if a then some ask else none }
  let p := modLane p .one fun l => { l with feedAsk := if b then some ask else none }
  setSt p { p.st with inMap := vset (vset p.st.inMap 2 .loaded) 5 .loaded }

/-- A command in progress of station 0. -/
def commanded (p : Part) : Part := setCu p { p.cu with inProgress := some ⟨0, 9, 0x7F⟩ }

/-- A parcel. -/
def parcelOf (kind source dest : Byte) (pl : List Byte) : Parcel := ⟨kind, source, dest, 1, pl⟩

/-- Station 4 is the indexer. -/
def indexed (p : Part) : Part := setRp p { p.rp with table := vset p.rp.table 3 .indexer }

/-- The outbound queue holds `n` parcels that are notices or not, and `k` reservations are held. -/
def queued (n k : Nat) (kind : Byte) (p : Part) : Part :=
  setRp p { p.rp with outbound := List.replicate n (parcelOf kind 7 0 []), reservations := k }

/-! ## Well-formedness and decoding -/

/-- A frame whose area is shorter than its capacity is refused by the check. -/
theorem test_ill_formed_frame_refused : Instr.wf (.frameArrival ⟨0, 64, 0, 0, [], 0⟩) = false := by decide

theorem test_well_formed_frame : Instr.wf (.frameArrival (frameOf [])) = true := by decide +kernel

/-- An area longer than the capacity is refused as well. -/
theorem test_overlong_frame_refused :
    Instr.wf (.frameArrival ⟨0, 64, 0, 0, List.replicate 65 0, 0⟩) = false := by decide

/-- The table gives no row bits, so that no word spells a command. -/
theorem test_no_word_spells_a_command (n w : Nat) : decodeTableWord n w = none := rfl

/-! ## Figures of the spec -/

set_option maxRecDepth 1000000 in
/-- Section 10.2: the check over 123456789. -/
theorem test_check_of_the_reference_text :
    crc32 (chars ['1', '2', '3', '4', '5', '6', '7', '8', '9']) = 0xCBF43926#32 := by decide +kernel

/-- Section 1.7.1: Eb 14,400, d 120, S 204 and PASS. -/
theorem test_bond_of_1_7_1 :
    judged171 = { group := some 3, energy := 14400, deform := 120, stick := 204, verdict := .pass
                  faults := [], action := .log } := by decide +kernel

/-- Section 1.7.2: the accumulator at its limit, with S 256 and then 200. -/
theorem test_bonds_of_1_7_2 :
    let a := judgement groups171 (bondOf 1071645696 8184 (List.replicate 8 1023)) entry171
    let b := judgement groups171 (bondOf 1069820664 8184 (List.replicate 8 800)) entry171
    a.energy = 65535 ∧ a.stick = 256 ∧ a.verdict = .nonStick ∧ a.faults = [.nonStick, .highEnergy] ∧
    b.stick = 200 ∧ b.faults = [.highEnergy] := by decide +kernel

/-- Section 1.7.3: the stick index at its limit, CLAMPED and NO_DRIVE. -/
theorem test_bonds_of_1_7_3 :
    let a := bondOf 57600000 8 (List.replicate 8 1023)
    let b := bondOf 57600000 0 (List.replicate 8 1023)
    (judgement groups171 a entry171).stick = 1023 ∧ (judgedMarks a entry171).clamped = true ∧
    (judgement groups171 b entry171).stick = 1023 ∧ (judgedMarks b entry171).noDrive = true ∧
    (judgedMarks b entry171).clamped = false := by decide +kernel

/-- Section 3.10: the addresses of records 10,237, 10,238 and 10,240. -/
theorem test_addresses_of_3_10 :
    let c := (partOf (storeAt .busy [])).store.config
    bondAddress c 10237 = 40888 ∧ bondAddress c 10238 = 40912 ∧ bondAddress c 10240 = 16384 := by
  decide +kernel

/-- Section 10.1: a drive of 0x0500 is taken as 0x100, and a group byte of 0x47 as 7. -/
theorem test_narrow_fields_of_10_1 :
    (sampleAt [0x00, 0x05, 0, 0, 0, 0, 0, 0] 0).v = 0x100 ∧ (entryOf [1, 0x47, 0, 0]).ball = 7 := by
  decide

/-- R149: 5 renders as 0.5 and 14,400 as 1440.0 with a point. -/
theorem test_decimal_point :
    dec1Text 5 = chars ['0', '.', '5'] ∧ dec1Text 14400 = chars ['1', '4', '4', '0', '.', '0'] := by
  decide +kernel

/-! ## One step of each command -/

/-- R161: straps of 31 are taken as station 30. -/
theorem test_reset_latches_31_as_30 :
    nextIs (fun t => t.part.rp.station == 30) (exec (.powerOnReset 31) State.reset) = true := by
  decide +kernel

/-- R131, R170: a head that is not held is held while RESET is asserted, the watchdog running from its end. -/
theorem test_reset_asserted_holds_the_heads :
    let p := partOf (strips [{ status := .good }])
    holdLine p .zero = false ∧ holdLine (resetAsserted p) .zero = true ∧
    (resetAsserted p).rp.watchdog = false ∧ (resetEnds 7 (resetAsserted p)).rp.watchdog = true := by
  decide +kernel

/-- R1: the tick after 59,999 ms is at 60,000, and beyond the last multiple part time wraps to 0. -/
theorem test_minute_ticks : nextMinute 59999 = 60000 ∧ nextMinute 60000 = 120000 ∧
    nextMinute 4294920000 = 0 := by decide

/-- R104: a pull ages at a tick and expires at its deadline. -/
theorem test_minute_tick_expires_a_due_pull :
    nextIs (fun t => t.part.pru.pulls.isEmpty && t.part.pru.counters.expired == 1)
      (exec .minuteTick (stateOf duePart)) = true := by decide +kernel

/-- R105: the expired pull is sent out unwritten while the store is OFF. -/
theorem test_pull_expiry :
    nextIs (fun t => t.part.pru.pulls.isEmpty && t.part.pru.counters.notWritten == 1)
      (exec .pullExpiry (stateOf duePart)) = true := by decide +kernel

set_option maxRecDepth 1000000 in
/-- R158, R170: a good frame brings the ring UP. -/
theorem test_good_frame :
    nextIs (fun t => t.part.rp.up && t.part.rp.lastCycle == 5 && t.part.rp.counters.good == 1)
      (exec (.frameArrival (frameOf [])) State.reset) = true := by decide +kernel

set_option maxRecDepth 1000000 in
/-- R163, R164: a FEED_ASK from the indexer becomes a filler and its denial goes out in the same frame. -/
theorem test_feed_ask_is_answered_in_its_frame :
    nextIs (fun t =>
        (t.part.rp.forwarded.map fun f => f.area.take 12) ==
          some [0, 7, 0, 0, 1, 0, 0x31, 7, 4, 9, 1, 1] && t.part.rp.reservations == 0)
      (exec (.frameArrival (frameOf [0x21, 4, 7, 9, 1, 2])) (stateOf indexed)) = true := by
  decide +kernel

/-- R170: a loss asserts both hold lines, which LANE_OFF already asserts after reset. -/
theorem test_watchdog_expiry :
    nextIs (fun t => (t.part.ahu.heads.get .one).ringLost && !t.part.rp.watchdog &&
        t.part.ahu.alarms.length == 1)
      (exec .ringWatchdogExpiry State.reset) = true := by decide +kernel

/-- R50: in 16-bit mode the second access of a map entry carries its bytes 2 and 3. -/
theorem test_access_complete_writes_a_word :
    nextIs (fun t => t.sram == [(20, 1), (21, 7)] && t.part.store.done == 1)
      (exec .accessComplete (stateOf (storeAt .busy [mapWriteAt20]))) = true := by decide +kernel

/-- R60, R61: the first-fault record of the access that timed out. -/
theorem test_access_timeout_is_recorded :
    nextIs (fun t => t.part.store.firstFault.isSome && t.part.store.state == .ready &&
        (t.part.store.firstFault.map fun x => x.addr) == some 20)
      (exec .accessTimeout (stateOf (storeAt .busy [mapWriteAt20]))) = true := by decide +kernel

/-- A fetch of (0, 14) that a closed bond waits on is in service, and the alarm number counter is 40. -/
def fetchWaited (p : Part) : Part :=
  let key : MapKey := ⟨0, 14⟩
  let p := storeAt .busy [{ kind := .mapFetch key, addr := 56, len := 4, data := [] }] (channelOf .closed p)
  let p := modContext p .zero 0 fun c => { c with lookup := .pending }
  let p := setMap p { p.map with fetches := [⟨key, false, [⟨.ctx .zero 0, 0⟩]⟩] }
  setAhu p { p.ahu with nextNumber := 40 }

/-- Section 6.7, steps 1 and 2: STORE_FAULT takes number 40 and UNMAPPED of the fetch's waiter 41. -/
theorem test_timeout_alarm_numbers :
    nextIs (fun t => (t.part.ahu.alarms.map fun a => (a.number, a.kind)) ==
        [(40, .storeFault), (41, .unmapped)])
      (exec .accessTimeout (stateOf fetchWaited)) = true := by decide +kernel

/-- R145: after the first LINE of a turn the second goes out. -/
theorem test_second_line_of_a_turn :
    nextIs (fun t => t.part.pnc.walk == .sending (turnOf 2 .line) &&
        t.part.pnc.buffer == some ⟨0x01, false⟩)
      (exec .messageSent (stateOf (panelsAt (.sending (turnOf 1 .line))))) = true := by decide +kernel

/-- R139: even parity over the data bits, the address flag and the parity bit. -/
theorem test_parity_error :
    parityError { parity := .even } ⟨0x03, false, true, true, true, 0⟩ = true ∧
    parityError { parity := .odd } ⟨0x03, false, true, true, true, 0⟩ = false ∧
    parityError { parity := .none } ⟨0x03, false, true, true, true, 0⟩ = false := by decide

/-- R139: a character with no window open is a stray. -/
theorem test_stray_character :
    nextIs (fun t => t.part.pnc.strays == 1)
      (exec (.characterReceived ⟨0, false, false, true, true, 0⟩) State.reset) = true := by
  decide +kernel

/-- R146: the third miss in a row makes a panel ABSENT, and its alarm names no subject. -/
theorem test_third_miss_makes_absent :
    nextIs (fun t => !(t.part.pnc.panels.get 0).present && t.part.ahu.alarms.length == 1)
      (exec .replyWindowClose (stateOf fun p =>
        modPanel (panelsAt (.listening (windowOf [])) p) 0 fun x => { x with misses := 2 })) = true := by
  decide +kernel

/-- R144: after a rest the walk resumes at its position. -/
theorem test_rest_end_resumes :
    nextIs (fun t => t.part.pnc.walk == .sending (turnOf 1 .line))
      (exec .restEnd (stateOf (panelsAt .resting))) = true := by decide +kernel

/-- Panel 1 shows page 1, whose line 0 has ALARM_COUNT; a PULL_ALARM alone holds lane 0's feeder, whose
FEED_ASK is deferred, and no slot is LOADED. -/
def starving (p : Part) : Part :=
  let p := modPanel p 0 fun x => { x with enabled := true, page := 1, selection := some 2, dirty := [] }
  let line : Template := { slots := [⟨0, 2, .alarmCount, .own, 0, .dec⟩] }
  let p := setPnc p { p.pnc with templates := vset p.pnc.templates 1 (vset (p.pnc.templates.get 1) 0 line) }
  let p := feeds true false p
  let p := setAhu p { p.ahu with
    alarms := [alarmOf 2 .pullAlarm (.lane .zero)]
    feeders := p.ahu.feeders.set .zero { laneOff := false, pullAlarm := true } }
  setSt p { p.st with inMap := Vector.replicate 40 .empty }

/-- R151: ALARM_COUNT goes from 1 to 0 at the acknowledgement and back to 1 at the INPUT_EMPTY of the run that it
sets off, and its line is marked. -/
theorem test_a_change_and_return_marks_its_line :
    let q := keyEffect 0 0x13 (partOf starving)
    q.ahu.alarms.map Alarm.kind = [.inputEmpty] ∧ (0 : Fin 8) ∈ (q.pnc.panels.get 0).dirty := by
  decide +kernel

/-- R35: MAP_READ gives back the stored class byte, and 0 in the bits that R183 ignores. -/
theorem test_stored_entry : storedEntry [0x81, 0x47, 0xC9, 0x20] = [0x01, 0x07, 0x09, 0x20] := by decide

/-- R143: the character in the shift register finishes at its settings, the next takes the new ones. -/
theorem test_settings_change_within_a_message :
    let p := panelsAt (.sending (turnOf 1 .line)) State.reset.part
    let c := (startMessage p 0 1 .line).pnc
    ((transmitBits { c with settings := { c.settings with twoStops := true } }).map List.length).take 2 =
      [11, 12] := by decide +kernel

/-! ## Witnesses: for each statement with hypotheses, something that meets them -/

theorem witness_IdleStepPassesOneMillisecond : State.reset.pending = [] := rfl

theorem witness_EveryStepKeepsTheSramForm :
    Memory.wf State.reset.sram ∧ step State.reset = .next { State.reset with part := passMs State.reset.part } :=
  ⟨rfl, rfl⟩

theorem witness_EveryStepKeepsAlarmsUnique :
    AlarmsUnique (partOf (withAlarms [alarmOf 2 .storeFault .store, alarmOf 3 .ringLost .ring])).ahu.alarms ∧
    ∃ t, step (stateOf (withAlarms [alarmOf 2 .storeFault .store, alarmOf 3 .ringLost .ring])) = .next t :=
  ⟨by decide, _, rfl⟩

theorem witness_EveryStepKeepsTenStripRecords :
    TenRecords State.reset.part.st ∧ ∃ t, step State.reset = .next t := ⟨by decide, _, rfl⟩

theorem witness_EveryStepKeepsTheOutboundBound :
    OutboundSound (partOf fun p => commanded (queued 31 1 0x11 p)) ∧
    ∃ t, step (stateOf fun p => commanded (queued 31 1 0x11 p)) = .next t := ⟨by decide, _, rfl⟩

theorem witness_OnlyPowerOnResetChangesTheStation :
    (∀ x, Instr.pullExpiry ≠ .powerOnReset x) ∧ ∃ t, exec .pullExpiry State.reset = .next t :=
  ⟨by (intro x h; cases h), _, rfl⟩

theorem witness_OnlyTicksAndResetChangePartTime :
    (∀ x, Instr.frameArrival (frameOf []) ≠ .powerOnReset x) ∧ Instr.frameArrival (frameOf []) ≠ .minuteTick ∧
    ∃ t, exec (.frameArrival (frameOf [])) State.reset = .next t :=
  ⟨by (intro x h; cases h), by (intro h; cases h), _, rfl⟩

theorem witness_MinuteTickAgesEveryPendingPull :
    ∀ l, ((partOf fun p => setPru p { p.pru with pulls := [pullOf 65535] }).pru.plans.get l).deadline = 0 := by
  intro l; cases l <;> rfl

theorem witness_MinuteTickAgesEveryPendingPull_due :
    let p := partOf fun p => duePart p
    let p := setPru p { p.pru with pulls := [pullOf 0, { pullOf 0 with strip := 4 }] }
    let aged := p.pru.pulls.map fun e => { e with age := incTo 65535 e.age }
    aged.Pairwise (fun x y => ¬(x.strip = y.strip ∧ x.unit = y.unit ∧ x.wire = y.wire)) ∧
    (∀ e ∈ aged, 0 < (p.pru.plans.get e.lane).deadline ∧ (p.pru.plans.get e.lane).deadline ≤ e.age) ∧
    (minuteTick p).pru.pulls = [] := by decide +kernel

theorem witness_PullExpiryRemovesTheOldestDue :
    (partOf duePart).pru.pulls.find? (isDue (partOf duePart)) = some (pullOf 1) ∧
    writesFull (partOf duePart) = false := by decide

theorem witness_PullExpiryRemovesTheOldestDue_none :
    State.reset.part.pru.pulls.find? (isDue State.reset.part) = none := rfl

theorem witness_PullExpiryRemovesTheOldestDue_full :
    writesFull (partOf fun p => storeAt .ready [] (setPru p { p.pru with
      writeList := List.replicate 15 (expiredRecord p (pullOf 1)) })) = true := by decide

theorem witness_BadFramesAreNotActedOn_damaged :
    frameClass ⟨5, 64, 0, 0, [], 0⟩ = .damaged ∧ frameClass (markDamaged (frameOf [])) = .damaged := by
  decide +kernel

set_option maxRecDepth 1000000 in
theorem witness_BadFramesAreNotActedOn_malformed :
    frameClass (sealFrame ⟨5, 64, 65, 0, List.replicate 64 0, 0⟩) = .malformed ∧
    frameClass (sealFrame ⟨5, 63, 0, 0, List.replicate 63 0, 0⟩) = .malformed := by decide +kernel

set_option maxRecDepth 1000000 in
theorem witness_BadFramesAreNotActedOn_check :
    Frame.wf (frameOf []) ∧ checkPasses (frameOf []) = true := by decide +kernel

set_option maxRecDepth 1000000 in
theorem witness_GoodFrameBringsTheRingUp :
    frameClass (frameOf []) = .good ∧ frameClass (frameOf (List.replicate 64 0)) = .good := by
  decide +kernel

set_option maxRecDepth 1000000 in
/-- A walk that stops early, one behind which a queued parcel fits, and one that changes nothing. -/
theorem witness_GoodFrameBringsTheRingUp_walks :
    frameClass (frameOf [1, 2, 3, 4, 241]) = .good ∧
    (walkParcels 5 State.reset.part [1, 2, 3, 4, 241]).stopped = true ∧
    (walkParcels 6 State.reset.part [0, 4, 7, 9, 1, 2]).stopped = false ∧
    (walkParcels 6 State.reset.part [0, 4, 7, 9, 1, 2]).bytes = [0, 4, 7, 9, 1, 2] ∧
    (fitParcels (64 - 6) (partOf (queued 1 0 0x11)).rp.outbound).1.length = 1 ∧
    (fitParcels (64 - 6) State.reset.part.rp.outbound).1 = [] := by decide +kernel

set_option maxRecDepth 1000000 in
theorem witness_WalkReadsBackAParcel :
    (parcelOf 0x12 7 0 (List.replicate 240 1)).payload.length ≤ 240 := by decide

theorem witness_WalkReadsBackAParcel_stops :
    240 < byteAt [1, 2, 3, 4, 241] 4 ∧ [1, 2, 3, 4, 1].length < 5 + byteAt [1, 2, 3, 4, 1] 4 := by decide

theorem witness_OwnAndUnconsumedParcels_own :
    let q := parcelOf 0x21 7 7 [0]
    kindOf q.kind ≠ .empty ∧ lengthFits (kindOf q.kind) q.payload = true ∧ q.source ≠ 31 ∧
    q.source = ownStation State.reset.part := by decide

theorem witness_OwnAndUnconsumedParcels_malformed :
    kindOf (0x00 : Byte) = .empty ∧
    (let q := parcelOf 0x21 4 7 [0, 0]
     kindOf q.kind ≠ .empty ∧ lengthFits (kindOf q.kind) q.payload = false) ∧
    (let q := parcelOf 0x21 31 7 [0]
     kindOf q.kind ≠ .empty ∧ q.source = 31) := by decide

theorem witness_OwnAndUnconsumedParcels_ignored :
    let p := partOf indexed
    let ok := fun (q : Parcel) => kindOf q.kind ≠ .empty ∧ lengthFits (kindOf q.kind) q.payload = true ∧
      q.source ≠ 31 ∧ q.source ≠ ownStation p ∧
      ¬(isRequest (kindOf q.kind) = true ∧ q.dest = ownStation p ∧ fits p (kindOf q.kind) q.source = true) ∧
      ¬(isTelemetry (kindOf q.kind) = true ∧ fits p (kindOf q.kind) q.source = true)
    (ok (parcelOf 0x21 5 7 [0]) ∧ (7 : Byte) = ownStation p) ∧
    (ok (parcelOf 0x46 4 9 [0, 0, 0, 0, 0, 0, 0, 0]) ∧ isTelemetry (kindOf 0x46) = true) ∧
    ok (parcelOf 0x21 5 9 [0]) ∧ (9 : Byte) ≠ ownStation p ∧ isTelemetry (kindOf 0x21) = false := by
  decide +kernel

theorem witness_OwnAndUnconsumedParcels_full :
    let p := partOf fun p => indexed (queued 30 2 0x11 p)
    let q := parcelOf 0x21 4 7 [0]
    kindOf q.kind ≠ .empty ∧ lengthFits (kindOf q.kind) q.payload = true ∧ q.source ≠ 31 ∧
    q.source ≠ ownStation p ∧ isRequest (kindOf q.kind) = true ∧ q.dest = ownStation p ∧
    fits p (kindOf q.kind) q.source = true ∧ 32 ≤ p.rp.outbound.length + p.rp.reservations := by
  decide +kernel

theorem witness_OwnAndUnconsumedParcels_command :
    let p := partOf commanded
    let q := parcelOf 0x10 0 7 [0x7F, 0]
    kindOf q.kind ≠ .empty ∧ lengthFits (kindOf q.kind) q.payload = true ∧ q.source ≠ 31 ∧
    q.source ≠ ownStation p ∧ isRequest (kindOf q.kind) = true ∧ q.dest = ownStation p ∧
    fits p (kindOf q.kind) q.source = true ∧ kindOf q.kind = .command ∧ p.cu.inProgress ≠ none := by
  decide

/-- Station 4 is the indexer, 5 the pull tester, and 3 and 6 the two head boards. -/
def peopled (p : Part) : Part :=
  let t := vset (vset p.rp.table 3 .indexer) 4 .pullTester
  setRp p { p.rp with table := vset (vset t 2 (.headBoard .zero)) 5 (.headBoard .one) }

theorem witness_OwnAndUnconsumedParcels_consumed :
    let p := partOf peopled
    let ok := fun (q : Parcel) => kindOf q.kind ≠ .empty ∧ lengthFits (kindOf q.kind) q.payload = true ∧
      q.source ≠ 31 ∧ q.source ≠ ownStation p ∧ q.dest = ownStation p
    p.rp.outbound.length + p.rp.reservations < 32 ∧ p.cu.inProgress = none ∧
    ok (parcelOf 0x10 0 7 [0x7F, 0]) ∧
    ok (parcelOf 0x20 3 7 [0]) ∧ roleOf p 3 = some (.headBoard .zero) ∧
    ok (parcelOf 0x20 6 7 [1]) ∧ roleOf p 6 = some (.headBoard .one) ∧
    ok (parcelOf 0x21 4 7 [0]) ∧ ok (parcelOf 0x22 4 7 [0]) ∧ ok (parcelOf 0x23 4 7 [0]) ∧
    roleOf p 4 = some .indexer ∧
    ok (parcelOf 0x24 5 7 [3, 0]) ∧ roleOf p 5 = some .pullTester := by decide +kernel

theorem witness_OwnAndUnconsumedParcels_snooped :
    let p := partOf peopled
    let ok := fun (q : Parcel) => kindOf q.kind ≠ .empty ∧ lengthFits (kindOf q.kind) q.payload = true ∧
      q.source ≠ 31 ∧ q.source ≠ ownStation p
    (∀ x ∈ [(0x40, 3, 6), (0x41, 3, 6), (0x42, 3, 5), (0x43, 6, 6), (0x44, 4, 3), (0x45, 4, 4), (0x46, 5, 8)],
      ok (parcelOf x.1 x.2.1 31 (List.replicate x.2.2 0))) ∧
    roleOf p 3 = some (.headBoard .zero) ∧ roleOf p 6 = some (.headBoard .one) ∧
    roleOf p 4 = some .indexer ∧ roleOf p 5 = some .pullTester := by decide +kernel

set_option maxRecDepth 1000000 in
theorem witness_RepliesAndNoticesAreQueued :
    0 < (partOf (queued 31 1 0x11)).rp.reservations ∧ (List.replicate 240 (0 : Byte)).length ≤ 240 ∧
    noticeCount (partOf (queued 23 8 0x12)) < 24 ∧ outboundTotal (partOf (queued 23 8 0x12)) < 32 := by
  decide +kernel

theorem witness_RepliesAndNoticesAreQueued_dropped :
    24 ≤ noticeCount (partOf (queued 24 0 0x12)) ∧ 32 ≤ outboundTotal (partOf (queued 25 7 0x11)) := by
  decide +kernel

theorem witness_WatchdogExpiryDeclaresTheLoss :
    State.reset.part.rp.watchdog = true ∧
    (partOf fun p => setRp p { p.rp with watchdog := false }).rp.watchdog = false := by decide

theorem witness_AccessCompletionGoesToTheNextAccess :
    let p := partOf (storeAt .busy [mapReadAt20])
    p.store.state = .busy ∧ p.store.queue = [mapReadAt20] ∧ mapReadAt20.withdrawn = false ∧
    p.store.done + 1 < accessCount p.store.config mapReadAt20 := by decide

/-- The store of `storeAt` with `n` accesses of its head request done, bytes read, and a command in progress. -/
def lastAccess (x : StoreState) (r : Request) (n : Nat) (got : List Byte) : State :=
  stateOf fun p =>
    let p := commanded (storeAt x [r] p)
    let p := setMap p { p.map with fetches := [⟨⟨0, 5⟩, false, []⟩] }
    setStore p { p.store with done := n, got := got }

/-- Requests of each kind that the statement names. -/
def lastRequests : List (Request × Nat) :=
  [(mapReadAt20, 1), (mapWriteAt20, 1), ({ kind := .mapFetch ⟨0, 5⟩, addr := 20, len := 4, data := [] }, 1),
   ({ kind := .bondWrite .zero .one, addr := 40888, len := 24, data := List.replicate 24 0 }, 11),
   ({ kind := .recordRead .bondRing 3, addr := 16456, len := 24, data := [] }, 11)]

theorem witness_LastAccessCompletesTheRequest :
    ∀ x ∈ lastRequests, ∀ w ∈ [StoreState.busy, .draining],
      let p := (lastAccess w x.1 x.2 [1, 7]).part
      inProgress p = some (x.1, []) ∧ accessCount p.store.config x.1 ≤ p.store.done + 1 ∧
      x.1.withdrawn = false ∧ p.cu.inProgress = some ⟨0, 9, 0x7F⟩ := by decide +kernel

/-- Before the last access: a DRAINING store, and a withdrawn lookback of a BUSY one. -/
theorem witness_LastAccessCompletesTheRequest_cut :
    (∀ x ∈ lastRequests,
      let p := (lastAccess .draining x.1 0 []).part
      inProgress p = some (x.1, []) ∧ ¬(accessCount p.store.config x.1 ≤ p.store.done + 1) ∧
      x.1.withdrawn = false ∧ p.store.state = .draining) ∧
    (let r : Request := { kind := .bondRead .ball 3, addr := 16456, len := 24, data := [], withdrawn := true }
     inProgress (lastAccess .busy r 0 []).part = some (r, []) ∧ r.withdrawn = true) := by decide +kernel

/-- The correlation slot reads the ball bond of a pull, with its stitch outcome `d` and its class. -/
def correlating (d : Option DataPart) (s : State) : State :=
  { s with part := setPru s.part { s.part.pru with
      slot := .reading (pullOf 0) ⟨3, 1, 2, 100, false, .span⟩ none d } }

theorem witness_LastAccessCompletesTheRequest_lookback :
    let r : Request := { kind := .bondRead .ball 3, addr := 16456, len := 24, data := [] }
    ∀ d ∈ [none, some DataPart.absent],
      let s := correlating d (lastAccess .busy r 11 [])
      inProgress s.part = some (r, []) ∧ accessCount s.part.store.config r ≤ s.part.store.done + 1 ∧
      s.part.pru.slot = .reading (pullOf 0) ⟨3, 1, 2, 100, false, .span⟩ none d ∧
      (pullOf 0).pullClass = .settled (some 4) ∧ s.part.store.state = .busy := by decide +kernel

theorem witness_LastAccessCompletesTheRequest_waiters :
    let p := partOf fetchWaited
    (p.map.fetches.find? fun x => x.key == ⟨0, 14⟩) = some ⟨⟨0, 14⟩, false, [⟨.ctx .zero 0, 0⟩]⟩ ∧
    p.map.placeWait = [] ∧ ((p.bm.channels.get .zero).contexts.get 0).isSome = true := by decide +kernel

theorem witness_LastAccessCompletesTheRequest_fetch :
    let s := lastAccess .busy { kind := .mapFetch ⟨0, 5⟩, addr := 20, len := 4, data := [] } 1 [1, 7]
    s.part.map.fetches.find? (fun x => x.key == ⟨0, 5⟩) = some ⟨⟨0, 5⟩, false, []⟩ ∧
    (entryOf (s.part.store.got ++ accessReads s)).valid = true := ⟨by decide, rfl⟩

theorem witness_LastAccessCompletesTheRequest_record :
    let s := lastAccess .busy { kind := .recordRead .bondRing 3, addr := 16456, len := 24, data := [] } 11
      (List.replicate 22 0)
    (s.part.store.got ++ accessReads s).length ≤ 32 := by
  have h : (accessReads (lastAccess .busy
    { kind := .recordRead .bondRing 3, addr := 16456, len := 24, data := [] } 11
    (List.replicate 22 0))).length = 2 := rfl
  simp only [List.length_append, h]
  decide

theorem witness_AccessCompletionWritesOnlyItsBytes :
    inProgress State.reset.part = none ∧
    inProgress (partOf (storeAt .busy [mapReadAt20])) = some (mapReadAt20, []) ∧
    isWrite mapReadAt20 = false ∧
    inProgress (partOf (storeAt .draining [mapWriteAt20])) = some (mapWriteAt20, []) ∧
    isWrite mapWriteAt20 = true ∧
    (accessData (partOf (storeAt .draining [])).store.config mapWriteAt20 0).length = 2 := by decide

theorem witness_EventsOutOfPlaceDoNothing :
    State.reset.part.store.state = .off ∧ (partOf (storeAt .ready [])).store.state = .ready ∧
    (∀ t, State.reset.part.pnc.walk ≠ .sending t) ∧ (∀ w, State.reset.part.pnc.walk ≠ .listening w) ∧
    State.reset.part.pnc.walk ≠ .resting :=
  ⟨rfl, rfl, fun _ h => (nomatch h), fun _ h => (nomatch h), fun h => (nomatch h)⟩

theorem witness_AccessTimeoutHoldsBothHeads :
    inProgress (partOf (storeAt .busy [mapReadAt20, mapWriteAt20])) = some (mapReadAt20, [mapWriteAt20]) := by
  decide

theorem witness_AccessTimeoutHoldsBothHeads_drain :
    inProgress (partOf (storeAt .draining [mapReadAt20])) = some (mapReadAt20, []) := by decide

theorem witness_LookbackIsDecidedAtHandIn :
    inService State.reset.part = false ∧
    inService (partOf (storeAt .ready [])) = true ∧
    (nextNumber (partOf (storeAt .ready [])).store .bondRing).toNat ≤ (10238 : BitVec 32).toNat ∧
    (10237 : BitVec 32).toNat < (nextNumber (partOf (storeAt .ready [])).store .bondRing).toNat := by decide

theorem witness_DisablingABusyStoreDrains :
    (partOf (storeAt .busy [mapReadAt20, mapWriteAt20])).store.state = .busy := rfl

theorem witness_DisablingABusyStoreDrains_request :
    (partOf (storeAt .draining [mapReadAt20, mapWriteAt20])).store.state = .draining ∧
    (partOf (storeAt .draining [mapReadAt20, mapWriteAt20])).store.queue =
      mapReadAt20 :: mapWriteAt20 :: [] := ⟨rfl, rfl⟩

/-- A PULL_WRITE request. -/
def pullWriteReq : Request := { kind := .pullWrite, addr := 40960, len := 32, data := [] }

/-- A store that begins to drain with a result in PLACE_WAIT whose entry needs one lookback, and these requests. -/
def waitingDrain (q : List Request) : Part :=
  let p := partOf (storeAt .draining q)
  setPru p { p.pru with
    slot := .placeWait { pullOf 0 with ball := some 7, stitch := none } ⟨3, 1, 2, 50, false, .span⟩ }

/-- R54, R59 and R108: the fault of another requester's request hands no lookback in while both places are taken by
queued PULL_WRITEs; the fault of one of these does, and the result is composed and sent out unwritten. -/
theorem test_drain_frees_a_place_by_its_own_request :
    let q := [pullWriteReq, pullWriteReq]
    (drainRequest (waitingDrain (mapReadAt20 :: mapReadAt20 :: q)) mapReadAt20).pru.slot =
      (waitingDrain []).pru.slot ∧
    (drainRequest (waitingDrain q) pullWriteReq).pru.slot = .empty := by decide +kernel

theorem witness_SampleIndexDecides :
    let c := bondOf 0 0 []
    399 < c.expected ∧ c.expected < 401 ∧ 1023 = { c with expected := 1023 }.expected ∧
    1024 = { c with expected := 1024 }.expected ∧ c.accepted ≤ min c.expected 1024 ∧
    c.expected ≤ 65543 ∧ (List.replicate 8 (⟨1, 1, 1, 1⟩ : Sample)).length ≤ 8 := by decide

theorem witness_AcceptedSampleIsAccumulated :
    let c := bondOf 57600000 4000 (List.replicate 8 400)
    c.lastEight.length ≤ 8 ∧ c.power ≤ 1046529 * c.accepted := by decide

theorem witness_BondFiguresFollowTheRules :
    let c := bondOf 0 0 (List.replicate 8 1023)
    c.power = 0 ∧ { c with z0 := none }.z0 = none ∧ (∀ z, c.z0 = some z → z ≤ 65535) ∧
    c.lastEight.length ≤ 8 ∧ (∀ i ∈ c.lastEight, i ≤ 1023) := by
  refine ⟨rfl, rfl, ?_, by decide, by decide⟩
  intro z h
  cases h
  decide

theorem witness_VerdictIsTheFirstFailingCheck :
    (∃ e, entry171 = .entry e ∧ e.valid = true) ∧ (∃ e, Resolution.entry e = .entry ⟨false, 3, 3, none⟩) ∧
    windowUsed groups171 .ball (groupUsed .ball entry171) = some window171 := by
  exact ⟨⟨_, rfl, rfl⟩, ⟨_, rfl⟩, by decide +kernel⟩

theorem witness_OverrunRaisesAnAlarm :
    side? (byteAt [0, 1, 0, 5, 0, 0] 0) = some .zero ∧
    ((partOf (channelOf .closed)).bm.channels.get .zero).on = true ∧
    openContext ((partOf (channelOf .closed)).bm.channels.get .zero) = none ∧
    ∀ i, ((partOf (channelOf .closed)).bm.channels.get .zero).contexts.get i ≠ none := by decide

/-- Channel 0 with an OPEN context of sequence 1 that waits for its lookup or has it, and an ACTIVE unit. -/
def opened (x : LookupState) (p : Part) : Part :=
  let p := strips [{ status := .active }] p
  modChannel p .zero fun ch => { ch with
    contexts := vset ch.contexts 0 (some { bondOf 57600000 4000 (List.replicate 8 400) with
      state := .opened, lookup := x })
    order := [0] }

theorem witness_OverrunRaisesAnAlarm_opens :
    let p := partOf (strips [{ status := .active }])
    side? (byteAt [0, 1, 0, 5, 0, 0] 0) = some .zero ∧ (p.bm.channels.get .zero).on = true ∧
    openContext (p.bm.channels.get .zero) = none ∧
    ((closeByOpen p .zero).bm.channels.get .zero).contexts.get 0 = none ∧
    activeUnit (closeByOpen p .zero) .zero = some ⟨3, 0⟩ := by decide +kernel

theorem witness_OverrunRaisesAnAlarm_closes :
    ∀ x ∈ [LookupState.pending, .resolved entry171],
      let p := partOf (opened x)
      openContext (p.bm.channels.get .zero) = some 0 ∧
      openContextOf (p.bm.channels.get .zero) (BitVec.ofNat 16 (word16At [0, 1, 0, 144, 1] 1)) = some 0 ∧
      ((p.bm.channels.get .zero).contexts.get 0).isSome = true := by decide +kernel

theorem witness_OverrunRaisesAnAlarm_stray :
    let p := modContext (partOf (channelOf .closed)) .zero 2 fun c => { c with closedByOpen := true }
    let ch := p.bm.channels.get .zero
    openContextOf ch 1 = none ∧ openContextOf ch 2 = none ∧ ch.order = [0, 1] ++ 2 :: [3] ∧
    ((ch.contexts.get 2).map fun c => (c.closedByOpen, c.sequence)) = some (true, 1) ∧
    ((ch.contexts.get 3).map fun c => c.closedByOpen) = some false := by decide +kernel

theorem witness_IssueNeedsItsThreeConditions :
    issueOne (partOf (channelOf (.judged judged171))) .zero ≠ none ∧
    issueOne (partOf (channelOf .closed)) .zero = none := by decide +kernel

/-- The context of `channelOf` names the ACTIVE unit 0 of strip 3, sampled, at BOND. -/
def issuing (p : Part) : Part :=
  let x : Strip := { number := 3, slot := 1, lane := .zero, units := [{ status := .active, refs := 1 }]
                     sampled := true, selection := [⟨0, 5, some 4, none, none⟩] }
  let p := modLane (channelOf (.judged judged171) p) .zero fun l => { l with bond := some x }
  modContext p .zero 0 fun c => { c with unitRef := some ⟨3, 0⟩ }

theorem witness_IssueNeedsItsThreeConditions_effects :
    let p := partOf issuing
    issueOne p .zero ≠ none ∧ (p.bm.channels.get .zero).order = [0, 1, 2, 3] ∧
    (((p.bm.channels.get .zero).contexts.get 0).map fun c => (c.head, c.state, c.unitRef)) =
      some (.zero, .judged judged171, some ⟨3, 0⟩) ∧
    (locate p 3).isSome = true ∧
    (((locate p 3).bind (recordAt p)).bind fun b => b.units[0]?.map UnitEntry.status) = some .active := by
  decide +kernel

/-- `issuing` with the unit CLOSING, a mark of the verdict's kind, and the context's phase. -/
def closingUnit (ph : Phase) (rejected : Bool) (p : Part) : Part :=
  let p := modContext (issuing p) .zero 0 fun c => { c with phase := ph }
  modUnitAt p (.lane .zero .bond) 0 fun u =>
    { u with status := .closing, wiresBonded := some 1, rejectMark := rejected }

theorem witness_IssueNeedsItsThreeConditions_closes :
    ∀ b ∈ [true, false],
      let p := partOf (closingUnit .ball b)
      issueOne p .zero ≠ none ∧ locate p 3 = some (.lane .zero .bond) ∧
      ((recordAt p (.lane .zero .bond)).bind fun s => s.units[0]?.map fun u => (u.status, u.refs)) =
        some (.closing, 1) ∧
      ((recordAt p (.lane .zero .bond)).bind fun s =>
        s.units[0]?.map fun u => finalStatus { u with refs := 0 } 1 == .reject) = some b ∧
      p.pru.pulls = [] := by decide +kernel

theorem witness_IssueNeedsItsThreeConditions_prefetches :
    let p := modContext (partOf fun p => storeAt .ready [] (issuing p)) .zero 0 fun c =>
      { c with phase := .stitch }
    issueOne p .zero ≠ none ∧ inService p = true ∧ cachedEntry p.map ⟨0, 0⟩ = none ∧
    inFlight p.map ⟨0, 0⟩ = false ∧ p.map.fetches.length ≤ 2 := by decide +kernel

theorem witness_IssueNeedsItsThreeConditions_untracked :
    let p := modContext (partOf (channelOf (.judged judged171))) .zero 0 fun c =>
      { c with unitRef := some ⟨77, 0⟩ }
    issueOne p .zero ≠ none ∧ locate p 77 = none := by decide +kernel

theorem witness_ChannelOffFreesItsContexts :
    ((partOf (channelOf .opened)).bm.channels.get .zero).on = true := by decide

/-- A cache with one entry, or with `n` fetches in flight of other keys. -/
def mapOf (n : Nat) (p : Part) : Part :=
  setMap p { p.map with
    slots := vset p.map.slots 0 (some ⟨⟨0, 5⟩, ⟨true, 3, 3, none⟩⟩)
    fetches := (List.range n).map fun i => ⟨⟨1, i⟩, false, []⟩ }

theorem witness_LookupTakesTheFirstCase :
    cachedEntry (partOf (mapOf 1)).map ⟨0, 5⟩ = some ⟨true, 3, 3, none⟩ ∧
    cachedEntry (partOf (mapOf 1)).map ⟨1, 0⟩ = none ∧ inFlight (partOf (mapOf 1)).map ⟨1, 0⟩ = true ∧
    cachedEntry (partOf (mapOf 3)).map ⟨2, 0⟩ = none ∧ inFlight (partOf (mapOf 3)).map ⟨2, 0⟩ = false ∧
    (partOf (mapOf 3)).map.fetches.length < 4 ∧ inService (partOf (mapOf 3)) = false ∧
    inService (partOf fun p => storeAt .ready [] (mapOf 3 p)) = true ∧
    cachedEntry (partOf (mapOf 4)).map ⟨2, 0⟩ = none ∧ inFlight (partOf (mapOf 4)).map ⟨2, 0⟩ = false ∧
    4 ≤ (partOf (mapOf 4)).map.fetches.length := by decide +kernel

theorem witness_FeedGrantTakesTheLowestLoadedSlot :
    let p := partOf (feeds true true)
    p.st.elevator = .idle ∧ chosenLane p = some .zero ∧
    (p.st.lanes.get .zero).feedAsk = some ⟨⟨4, 9⟩, false⟩ ∧ p.st.pool ≠ 0 ∧
    p.st.inMap.get 2 = .loaded ∧ (∀ i, i < 2 → p.st.inMap.get i ≠ .loaded) := by decide +kernel

theorem witness_FeedGrantTakesTheLowestLoadedSlot_chosen :
    inArbitration (partOf (feeds true true)) .zero = true ∧
    inArbitration (partOf (feeds true true)) .one = true ∧
    inArbitration (partOf (feeds false true)) .one = true ∧
    inArbitration (partOf (feeds false true)) .zero = false ∧
    inArbitration State.reset.part .zero = false ∧ inArbitration State.reset.part .one = false := by
  decide +kernel

theorem witness_FeedGrantTakesTheLowestLoadedSlot_occupied :
    let p := partOf fun p => modLane (feeds true true p) .zero fun l =>
      { l with pulling := some { number := 3, slot := 1, lane := .zero } }
    (p.st.lanes.get .zero).pulling ≠ none ∧ (p.st.lanes.get .zero).feedAsk ≠ none := by decide +kernel

theorem witness_UnitAskGrantsTheLowestPending :
    let us : List UnitEntry := [{ status := .skip }, { status := .pending }]
    let p := partOf (strips us)
    headHeld p .zero = false ∧
    (p.st.lanes.get .zero).bond = some { number := 3, slot := 1, lane := .zero, units := us } ∧
    us[1]? = some { status := .pending } ∧ (∀ k < 1, ∀ x, us[k]? = some x → x.status ≠ .pending) := by
  refine ⟨by decide, by decide, rfl, ?_⟩
  intro k hk x hx
  obtain rfl : k = 0 := by omega
  cases hx
  decide

theorem witness_UnitAskGrantsTheLowestPending_done :
    headHeld (partOf (strips [{ status := .good }])) .zero = false ∧
    ∀ u ∈ ([{ status := .good }] : List UnitEntry), u.status ≠ .pending := by decide

theorem witness_WindowStaysInAgreement :
    WindowSound ⟨List.replicate 32 ⟨100, true⟩, 32, 3200, some 100, 32, false⟩ := by decide

theorem witness_PullOutcomeByTheFirstCase :
    (⟨3, 1, 2, 100, false, .void⟩ : PullResult).mode = .void ∧
    (⟨3, 1, 2, 100, false, .neck⟩ : PullResult).mode ≠ .void := by decide

theorem witness_WorkAskIssuesTheFirstSixteen :
    let es := (partOf duePart).pru.pulls
    es[0]? = some (pullOf 1) ∧ (pullOf 1).strip = 3 := by decide

theorem witness_RaiseAddsOrCoalesces :
    let as := [alarmOf 2 .storeFault .store]
    (∀ a ∈ as, a.count ≤ 255) ∧ (∃ a ∈ as, a.kind = .storeFault ∧ a.source = .store) ∧
    (∀ a ∈ as, ¬(a.kind = .ringLost ∧ a.source = .ring)) := by decide

theorem witness_AcknowledgementReleasesItsHold :
    let p := partOf (withAlarms [alarmOf 2 .storeFault .store])
    p.ahu.alarms.find? (fun a => a.number == 2) = some (alarmOf 2 .storeFault .store) ∧
    (p.st.lanes.get .zero).feedAsk = none ∧ (p.st.lanes.get .one).feedAsk = none ∧
    ∀ a ∈ p.ahu.alarms, a.number ≠ 3 := by decide

theorem witness_PollOpensTheReplyWindow :
    (partOf (panelsAt (.sending (turnOf 2 .poll)))).pnc.walk = .sending (turnOf 2 .poll) ∧
    (turnOf 2 .poll).message = .poll ∧ (turnOf 2 .poll).cut = false := ⟨rfl, rfl, rfl⟩

theorem witness_TurnSendsAtMostTwoLines :
    (partOf (panelsAt (.sending (turnOf 2 .line)))).pnc.walk = .sending (turnOf 2 .line) ∧
    (turnOf 2 .line).cut = false ∧ (turnOf 2 .line).message ≠ .poll := ⟨rfl, rfl, by decide⟩

theorem witness_ReceivedCharacterIsKeptOrStray :
    (partOf (panelsAt (.listening (windowOf [])))).pnc.walk = .listening (windowOf []) ∧
    ∀ w, State.reset.part.pnc.walk ≠ .listening w := ⟨rfl, fun _ h => (nomatch h)⟩

/-- R143: a character begun before two line forms is marked by the settings before both. -/
theorem witness_ReceivedCharacterIsKeptOrStray_forms :
    let p := configLine (configLine State.reset.part { parity := .even }) { parity := .odd }
    p.pnc.prior = [{ parity := .even }, {}] ∧
    (markChar p.pnc ⟨1, false, false, true, true, 0⟩).parity = false ∧
    (markChar p.pnc ⟨1, false, false, true, true, 1⟩).parity = true ∧
    (markChar p.pnc ⟨1, false, false, true, true, 2⟩).parity = false := by decide +kernel

theorem witness_ReplyIsJudgedByItsCharacters :
    judgeReply [] = .silent ∧ judgeReply [rxOf 0] = .valid [] ∧
    judgeReply [rxOf 4, rxOf 16, rxOf 17, rxOf 18, rxOf 19] = .valid [16, 17, 18, 19] ∧
    judgeReply [rxOf 5, rxOf 0, rxOf 0, rxOf 0, rxOf 0, rxOf 0] = .discarded := by decide

theorem witness_SilentWindowIsAMiss :
    (partOf (panelsAt (.listening (windowOf [])))).pnc.walk = .listening (windowOf []) ∧
    (windowOf []).chars = [] := ⟨rfl, rfl⟩

theorem witness_SilentWindowIsAMiss_judged :
    judgeReply (windowOf []).chars = .silent ∧
    judgeReply (windowOf [rxOf 5]).chars = .discarded ∧
    judgeReply (windowOf [rxOf 1, rxOf 0x10]).chars = .valid [0x10] := by decide

theorem witness_SilentWindowIsAMiss_alarms :
    let p := partOf (withAlarms [alarmOf 1 .panelAbsent (.panel 0), alarmOf 2 .storeFault .store])
    AlarmsUnique p.ahu.alarms ∧ (p.ahu.alarms.map Alarm.number).Nodup := by decide

theorem witness_RestEndResumesTheWalk :
    (partOf (panelsAt .resting)).pnc.walk = .resting ∧ turnAt (partOf (panelsAt .resting)).pnc = some 0 ∧
    State.reset.part.pnc.walk ≠ .resting := by decide +kernel

theorem witness_WalkComesToATurnOrARest : anyServable (partOf (panelsAt .stopped)).pnc = true := by
  decide +kernel

theorem witness_ViewKeysActOnThePanel :
    let as := [alarmOf 1 .ringLost .ring]
    let bs := [alarmOf 3 .inputEmpty .input]
    let p := partOf fun p => panelsAt .stopped (withAlarms (as ++ alarmOf 2 .storeFault .store :: bs) p)
    p.ahu.alarms = as ++ alarmOf 2 .storeFault .store :: bs ∧ (p.ahu.alarms.map Alarm.number).Nodup ∧
    (p.pnc.panels.get 0).selection = some 2 ∧ (p.pnc.panels.get 1).selection = none ∧
    as = [] ++ [alarmOf 1 .ringLost .ring] ∧ bs = alarmOf 3 .inputEmpty .input :: [] := by
  decide +kernel

theorem witness_ViewKeysActOnThePanel_ends :
    let a := alarmOf 2 .storeFault .store
    let p := partOf fun p => panelsAt .stopped (withAlarms [a] p)
    p.ahu.alarms = [] ++ a :: [] ∧ (p.ahu.alarms.map Alarm.number).Nodup ∧
    (p.pnc.panels.get 0).selection = some a.number := by decide +kernel

theorem witness_ViewKeysActOnThePanel_pages :
    let p := partOf starving
    (p.pnc.panels.get 0).page = 1 ∧ (p.pnc.panels.get 0).selection = some 2 ∧
    (p.pnc.panels.get 1).page ≠ 1 ∧ (1 : Fin 4) ≠ 0 := by decide +kernel

theorem witness_ProgramReadAnswersTheGroup : (63 : Byte).toNat < 64 ∧ 64 ≤ (64 : Byte).toNat := by decide

theorem witness_UnknownCommandIsRefused :
    commandRow (byteAt [0x7E, 0] 0) (byteAt [0x7E, 0] 1) = none ∧
    commandRow (byteAt [0x60, 2] 0) (byteAt [0x60, 2] 1) = none := by decide

theorem witness_RestartRepliesInOrder :
    (partOf commanded).cu.inProgress = some ⟨0, 9, 0x7F⟩ := rfl

theorem witness_StationSetReplacesOneEntry :
    (30 : Byte).toNat = (29 : Fin 30).val + 1 ∧ (30 : Byte).toNat ≠ State.reset.part.rp.station.toNat ∧
    (7 : Byte).toNat = (6 : Fin 30).val + 1 ∧ (7 : Byte).toNat = State.reset.part.rp.station.toNat ∧
    30 < (31 : Byte).toNat ∧ 4 < (5 : Byte).toNat ∧ 1 < (2 : Byte).toNat := by decide

/-- The five roles of R162, a head board with either head. -/
theorem witness_StationSetReplacesOneEntry_roles :
    ∀ x ∈ [((0 : Byte), (9 : Byte), Role.vacant), (1, 0, .headBoard .zero), (1, 1, .headBoard .one),
      (2, 9, .indexer), (3, 9, .pullTester), (4, 9, .other)],
      nextIs (fun t => t.part.rp.table.get 29 == x.2.2)
        (.next { State.reset with part := runRow State.reset.part .stationSet [30, x.1, x.2.1] }) = true := by
  decide +kernel

end Sys2Proof.Tests
end

section
/-! PROOFS. The bond monitor's samples and figures (Sections 1.4 to 1.7): what an accepted sample does to each
field, where a block of samples leaves the expected index, and the figures and marks of judgement. -/

namespace Sys2Proof.Machine

/-! ## An accepted sample (R11) -/

@[simp] theorem acceptSample_accepted (c : Context) (j : Nat) (x : Sample) :
    (acceptSample c j x).accepted = c.accepted + 1 := rfl

@[simp] theorem acceptSample_power (c : Context) (j : Nat) (x : Sample) :
    (acceptSample c j x).power = c.power + x.v * x.i := rfl

/-- A window of at most eight currents makes room for one more by keeping its last seven. -/
theorem makeRoom_eq_drop {w : List Nat} (h : w.length ≤ 8) :
    (if w.length < 8 then w else w.drop 1) = w.drop (w.length - 7) := by
  split
  next hlt => rw [Nat.sub_eq_zero_of_le (by omega), List.drop_zero]
  next hge => rw [show w.length - 7 = 1 by omega]

theorem acceptSample_eq {c : Context} (h : c.lastEight.length ≤ 8) (j : Nat) (x : Sample) :
    acceptSample c j x = { c with
      accepted := c.accepted + 1
      power := c.power + x.v * x.i
      firstEight := if j ≤ 7 then c.firstEight + x.i else c.firstEight
      lastEight := (c.lastEight.drop (c.lastEight.length - 7)) ++ [x.i]
      z0 := if c.z0 = none ∧ c.touchdown ≤ x.f then some x.z else c.z0
      lastHeight := some x.z } := by
  simp only [acceptSample, makeRoom_eq_drop h, Option.isNone_iff_eq_none]

theorem acceptSample_lastEight_length {c : Context} (h : c.lastEight.length ≤ 8) (j : Nat) (x : Sample) :
    (acceptSample c j x).lastEight.length ≤ 8 := by
  simp only [acceptSample_eq h, List.length_append, List.length_drop, List.length_singleton]
  omega

/-- The accumulator stays within one full-scale product, 1,023 times 1,023, for each accepted sample. -/
theorem acceptSample_power_le {c : Context} {x : Sample} (j : Nat) (hv : x.v ≤ 1023) (hi : x.i ≤ 1023)
    (hp : c.power ≤ 1046529 * c.accepted) :
    (acceptSample c j x).power ≤ 1046529 * (acceptSample c j x).accepted := by
  have hvi : x.v * x.i ≤ 1023 * 1023 := Nat.mul_le_mul hv hi
  simp only [acceptSample_power, acceptSample_accepted]
  omega

/-- Settles O33: the accumulator's bound is per accepted sample, so 1,024 of them bound the bond. -/
theorem acceptedSampleIsAccumulated : Obligations.AcceptedSampleIsAccumulated := by
  intro c j x hw
  refine ⟨acceptSample_eq hw j x, acceptSample_lastEight_length hw j x, fun hv hi hp => ?_⟩
  have hbound := acceptSample_power_le j hv hi hp
  exact ⟨hbound, fun hn => ⟨by omega, by omega⟩⟩

/-! ## The figures of a bond (R15 to R17) -/

theorem clampTo_eq_min (top n : Nat) : clampTo top n = min top n := by
  unfold clampTo
  split <;> omega

theorem bondEnergy_eq (c : Context) : bondEnergy c = min 65535 (c.power / 4000) :=
  clampTo_eq_min _ _

theorem stickIndex_eq (c : Context) :
    stickIndex c =
      if c.firstEight = 0 then 1023 else min 1023 (c.lastEight.sum * 256 / c.firstEight) := by
  simp only [stickIndex, clampTo_eq_min, rawStick, lastEightSum]

/-- The deformation never exceeds the touchdown height. -/
theorem deformation_le {c : Context} {n : Nat} (h : ∀ z, c.z0 = some z → z ≤ n) : deformation c ≤ n := by
  unfold deformation
  split
  next z x hz hx => exact (Nat.sub_le z x).trans (h z hz)
  next => exact Nat.zero_le n

theorem rebounds_iff (c : Context) :
    rebounds c = true ↔ ∃ z x, c.z0 = some z ∧ c.lastHeight = some x ∧ z < x := by
  unfold rebounds
  split
  next z x hz hx => simp [hz, hx]
  next hne =>
    simp only [Bool.false_eq_true, false_iff]
    rintro ⟨z, x, hz, hx, -⟩
    exact hne z x hz hx

/-! ## The marks and faults of judgement (R15 to R18) -/

theorem judgedMarks_clamped_iff (c : Context) (r : Resolution) :
    (judgedMarks c r).clamped = true ↔
      c.marks.clamped = true ∨ 65535 < c.power / 4000 ∨
      (c.firstEight ≠ 0 ∧ 1023 < c.lastEight.sum * 256 / c.firstEight) := by
  simp only [judgedMarks, Bool.or_eq_true, Bool.and_eq_true, bne_iff_ne, decide_eq_true_eq, or_assoc]
  exact Iff.rfl

theorem judgedMarks_rebound_iff (c : Context) (r : Resolution) :
    (judgedMarks c r).rebound = true ↔
      c.marks.rebound = true ∨ ∃ z x, c.z0 = some z ∧ c.lastHeight = some x ∧ z < x := by
  simp only [judgedMarks, Bool.or_eq_true, rebounds_iff]

theorem judgedMarks_noDrive_iff (c : Context) (r : Resolution) :
    (judgedMarks c r).noDrive = true ↔ c.marks.noDrive = true ∨ c.firstEight = 0 := by
  simp only [judgedMarks, Bool.or_eq_true, beq_iff_eq]

/-- The fault set holds the checks of the table that fail (R18). -/
theorem mem_judgement_faults_iff (groups : Vector BondGroup 64) (c : Context) (r : Resolution) (v : Verdict) :
    v ∈ (judgement groups c r).faults ↔
      v ∈ allChecks ∧
      checkFails c (groupUsed c.phase r) (windowUsed groups c.phase (groupUsed c.phase r)) v = true :=
  List.mem_filter

theorem noContact_mem_judgement_faults (groups : Vector BondGroup 64) {c : Context} (r : Resolution)
    (h : c.z0 = none) : Verdict.noContact ∈ (judgement groups c r).faults :=
  (mem_judgement_faults_iff ..).2 ⟨by decide, by simp only [checkFails, h, Option.isNone_none]⟩

/-- Settles O34: each figure and each mark by its own lemma. -/
theorem bondFiguresFollowTheRules : Obligations.BondFiguresFollowTheRules := by
  intro groups c r
  have energy : (judgement groups c r).energy = min 65535 (c.power / 4000) := bondEnergy_eq c
  refine ⟨energy, ?noPower, fun _ _ _ _ => ⟨rfl, rfl⟩, ?deform,
    noContact_mem_judgement_faults groups r, deformation_le, stickIndex_eq c, ?lastEight,
    judgedMarks_clamped_iff c r, judgedMarks_rebound_iff c r, judgedMarks_noDrive_iff c r⟩
  case noPower =>
    intro hA
    simp [energy, hA]
  case deform =>
    change deformation c = _
    unfold deformation
    generalize c.z0 = touchdownHeight, c.lastHeight = last
    match touchdownHeight, last with
    | none, _ => rfl
    | some _, none => rfl
    | some z, some x =>
      change z - x = if x ≤ z then z - x else 0
      split <;> omega
  case lastEight =>
    intro hlen hi
    calc c.lastEight.sum ≤ c.lastEight.length * 1023 := List.sum_le_card_nsmul _ _ hi
      _ ≤ 8184 := by omega

/-! ## A sample by its index (R10) -/

theorem takeExpected_of_le {j : Nat} (h : j ≤ 1023) (c : Context) (x : Sample) :
    takeExpected c j x = { acceptSample c j x with expected := j + 1 } := if_pos h

theorem takeExpected_of_ge {j : Nat} (h : 1024 ≤ j) (c : Context) (x : Sample) :
    takeExpected c j x = { c with marks := { c.marks with truncated := true }, expected := j + 1 } :=
  if_neg (by omega)

@[simp] theorem takeExpected_expected (c : Context) (j : Nat) (x : Sample) :
    (takeExpected c j x).expected = j + 1 := by
  unfold takeExpected
  split <;> rfl

theorem takeExpected_accepted (c : Context) (j : Nat) (x : Sample) :
    (takeExpected c j x).accepted = if j ≤ 1023 then c.accepted + 1 else c.accepted := by
  unfold takeExpected
  split <;> rfl

theorem takeSample_of_lt {c : Context} {j : Nat} (h : j < c.expected) (x : Sample) :
    takeSample c j x = c := if_pos h

theorem takeSample_of_eq {c : Context} {j : Nat} (h : j = c.expected) (x : Sample) :
    takeSample c j x = takeExpected c j x := by
  simp [takeSample, h]

theorem takeSample_of_gt {c : Context} {j : Nat} (h : c.expected < j) (x : Sample) :
    takeSample c j x =
      takeExpected { c with marks := { c.marks with gapped := true }, expected := j } j x := by
  rw [takeSample, if_neg (by omega), if_pos h]

/-- A sample moves the expected index up to its own successor, never back. -/
theorem takeSample_expected (c : Context) (j : Nat) (x : Sample) :
    (takeSample c j x).expected = max c.expected (j + 1) := by
  rcases lt_trichotomy j c.expected with h | h | h
  · rw [takeSample_of_lt h]; omega
  · rw [takeSample_of_eq h, takeExpected_expected]; omega
  · rw [takeSample_of_gt h, takeExpected_expected]; omega

/-- The accepted count stays within the indexes taken and the 1,024 that a bond can accept. -/
theorem takeSample_accepted_le {c : Context} (h : c.accepted ≤ min c.expected 1024) (j : Nat) (x : Sample) :
    (takeSample c j x).accepted ≤ min (takeSample c j x).expected 1024 := by
  rw [takeSample_expected]
  rcases lt_trichotomy j c.expected with hj | hj | hj
  · rw [takeSample_of_lt hj]; omega
  · rw [takeSample_of_eq hj, takeExpected_accepted]; split <;> omega
  · rw [takeSample_of_gt hj, takeExpected_accepted]; dsimp only; split <;> omega

/-! ## A block of samples (R9, R10) -/

/-- A block that is not empty moves the expected index up to the one after its last sample, never back. -/
theorem takeBlock_cons_expected (c : Context) (j : Nat) (x : Sample) (xs : List Sample) :
    (takeBlock c j (x :: xs)).expected = max c.expected (j + (xs.length + 1)) := by
  induction xs generalizing c j x with
  | nil => exact takeSample_expected c j x
  | cons y ys ih =>
    rw [takeBlock, ih, takeSample_expected, List.length_cons]
    omega

theorem takeBlock_expected_le (c : Context) (j : Nat) (xs : List Sample) :
    (takeBlock c j xs).expected ≤ max c.expected (j + xs.length) := by
  cases xs with
  | nil => exact le_max_left _ _
  | cons x xs => exact (takeBlock_cons_expected c j x xs).le

theorem le_takeBlock_expected (c : Context) (j : Nat) {xs : List Sample} (h : xs ≠ []) :
    j + xs.length ≤ (takeBlock c j xs).expected := by
  obtain ⟨x, xs, rfl⟩ := List.exists_cons_of_ne_nil h
  exact (le_max_right _ _).trans (takeBlock_cons_expected c j x xs).ge

/-- The k-th sample of a block has index first index + k. -/
theorem takeBlock_eq_foldl {f : Context → Nat → Context} {first : Nat} {xs : List Sample}
    (hf : ∀ c k x, xs[k]? = some x → f c k = takeSample c (first + k) x) (c : Context) :
    takeBlock c first xs = (List.range xs.length).foldl f c := by
  induction xs generalizing c first f with
  | nil => rfl
  | cons x xs ih =>
    have htail (c k y) (hy : xs[k]? = some y) : f c (k + 1) = takeSample c (first + 1 + k) y := by
      rw [hf c (k + 1) y hy, Nat.add_assoc, Nat.add_comm 1 k]
    rw [takeBlock, List.length_cons, List.range_succ_eq_map, List.foldl_cons, List.foldl_map,
      hf c 0 x rfl]
    exact ih htail _

/-- Settles O32: each row of the table of R10 by its own lemma, and the bounds by where a block leaves the
expected index. -/
theorem sampleIndexDecides : Obligations.SampleIndexDecides := by
  refine ⟨fun c j x => ⟨?duplicate, ?gap, ?accepted, ?truncated, ?count⟩,
    fun c first xs => ⟨?fold, ?bound, ?onlyFirstGaps⟩⟩
  case duplicate => exact fun h => takeSample_of_lt h x
  case gap => exact fun h => (takeSample_of_gt h x).trans (takeSample_of_eq rfl x).symm
  case accepted => exact fun h hj => (takeSample_of_eq h x).trans (takeExpected_of_le hj c x)
  case truncated => exact fun h hj => (takeSample_of_eq h x).trans (takeExpected_of_ge hj c x)
  case count => exact fun h => takeSample_accepted_le h j x
  case fold => exact takeBlock_eq_foldl (fun c k x hx => by simp only [hx]) c
  case bound =>
    intro hfirst hlen he
    have := takeBlock_expected_le c first xs
    omega
  case onlyFirstGaps =>
    intro k hk hle
    have hlen : (xs.take k).length = k := List.length_take_of_le hle
    have hne : xs.take k ≠ [] := List.ne_nil_of_length_pos (by omega)
    have h := le_takeBlock_expected c first hne
    rwa [hlen] at h

end Sys2Proof.Machine
end

section
/-! PROOFS. The Bond Program Table (Section 2.1): what PROGRAM_READ answers for each group number. -/

namespace Sys2Proof.Machine

/-! ## A number among the arguments as the index of a table -/

theorem index?_of_lt {n x : Nat} (h : x < n) : index? n x = some ⟨x, h⟩ := dif_pos h

theorem index?_of_ge {n x : Nat} (h : n ≤ x) : index? n x = none := dif_neg (Nat.not_lt.2 h)

/-! ## PROGRAM_READ (R31) -/

theorem groupBytes_eq_cons (x : BondGroup) :
    groupBytes x = boolByte x.valid :: (windowBytes x.ball ++ windowBytes x.stitch) :=
  rfl

theorem cmdProgramRead_of_index {a : List Byte} {g : Fin 64} (h : index? 64 (byteAt a 0) = some g) (p : Part) :
    cmdProgramRead p a = replyDone p (groupBytes (p.bm.groups.get g)) := by
  simp only [cmdProgramRead, h]

theorem cmdProgramRead_of_no_index {a : List Byte} (h : index? 64 (byteAt a 0) = none) (p : Part) :
    cmdProgramRead p a = replyRefused p .argument := by
  simp only [cmdProgramRead, h]

/-- Settles O57: the group number either names an entry of the table, whose bytes are the reply, or names none. -/
theorem programReadAnswersTheGroup : Obligations.ProgramReadAnswersTheGroup := by
  refine fun p g => ⟨fun hg => ?answered, fun hg => ?refused⟩
  case answered =>
    have hindex : index? 64 (byteAt [g] 0) = some ⟨g.toNat, hg⟩ := index?_of_lt hg
    calc runRow p .programRead [g]
      _ = replyDone p (groupBytes (p.bm.groups.get ⟨g.toNat, hg⟩)) := cmdProgramRead_of_index hindex p
      _ = _ := by rw [groupBytes_eq_cons]
  case refused =>
    have hindex : index? 64 (byteAt [g] 0) = none := index?_of_ge hg
    exact cmdProgramRead_of_no_index hindex p

end Sys2Proof.Machine
end

section
/-! PROOFS. The laws of the part: the relations between the part before and after a change that the statements
speak of (a block as it was, a queue that only grew, an invariant kept). Each is reflexive and transitive, so that
the files behind this one say once, for each operation, which of them it keeps. -/

namespace Sys2Proof.Machine

-- One proof after another: every thread of a compile reserves its own stack.
set_option Elab.async false

/-! ## The relations that are not equalities -/

/-- One reservation for each request that waits and for `d` more whose replies are still to be given (R165), within
the bounds of R167. -/
def Owes (d : Nat) (p : Part) : Prop :=
  p.rp.reservations = heldRequests p + d ∧ outboundTotal p ≤ outboundPlaces ∧ noticeCount p ≤ noticePlaces

theorem owes_zero_iff (p : Part) : Owes 0 p ↔ OutboundSound p := by
  simp only [Owes, Nat.add_zero]

/-- The write slot `x` of the channel of head `h`. -/
def writeSlot (c : Two Channel) (h x : Side) : Option (BitVec 32) := (c.get h).slots.get x

/-- The store is in service (Section 3.3). -/
def StoreState.serves : StoreState → Bool
  | .ready | .busy => true
  | .off | .draining => false

theorem inService_eq_serves (p : Part) : inService p = p.store.state.serves := by
  unfold inService
  cases p.store.state <;> rfl

/-- The requests `new` have been handed in (R57), and nothing else of the store has moved but its numbers and the
counters of lookbacks and faults; a write slot that changed is that of a BOND_WRITE among them (R21). -/
structure Growth (s t : RecordStore) (c d : Two Channel) (new : List Request) : Prop where
  queue : t.queue = s.queue ++ new
  config : t.config = s.config
  firstFault : t.firstFault = s.firstFault
  timeouts : t.counters.timeouts = s.counters.timeouts
  faulted : s.counters.faulted.toNat ≤ t.counters.faulted.toNat
  state : t.state = if s.state = .ready ∧ new ≠ [] then .busy else s.state
  outOfService : s.state.serves = false → new = [] ∧ t.wb = s.wb ∧ t.wp = s.wp
  atStart : s.done = 0 → s.got = [] → t.done = 0 ∧ t.got = []
  slots : ∀ h x, writeSlot d h x = writeSlot c h x ∨ ∃ r ∈ new, r.kind = .bondWrite h x

/-- The record is on the write list or in a PULL_WRITE of the queue (R110). -/
def Recorded (p : Part) (k : PullRecord) : Prop :=
  k ∈ p.pru.writeList ∨ ∃ w ∈ p.store.queue, w.kind = .pullWrite ∧ ∃ n, w.data = pullRecordBytes n k

/-- The kinds of alarm whose reason is a bond of a head (R22). -/
def isBondAlarm : AlarmKind → Bool
  | .bondFault | .unmapped | .noProgram => true
  | _ => false

/-! ## The laws -/

/-- A law names a relation between the part before and after a change. -/
inductive Law where
  | time | rp | station | link | outbound | owes
  | cu | bm | groups | lookups
  | map | mapSlots | waits
  | store | growth | records
  | st | ten | unitAsks
  | pru | plans | pulls | slot
  | ahu | heads | feeders | storeHold | kinds | bondAlarms | unique
  | pnc | line | views
  deriving DecidableEq, Repr

/-- The relation that a law names: `q` is the part after, `p` the part before. -/
def Law.Holds (p q : Part) : Law → Prop
  | .time => q.time = p.time
  | .rp => q.rp = p.rp
  | .station => q.rp.station = p.rp.station
  | .link => q.rp.up = p.rp.up ∧ q.rp.watchdog = p.rp.watchdog ∧ q.rp.period = p.rp.period ∧
      q.rp.lastCycle = p.rp.lastCycle
  | .outbound => p.rp.outbound <+: q.rp.outbound
  | .owes => ∀ d, Owes d p → Owes d q
  | .cu => q.cu = p.cu
  | .bm => q.bm = p.bm
  | .groups => q.bm.groups = p.bm.groups
  | .lookups => ∀ h i c, contextOf q h i = some c → ∃ b, contextOf p h i = some b ∧ b.lookup = c.lookup
  | .map => q.map = p.map
  | .mapSlots => q.map.slots = p.map.slots
  | .waits => ∀ y ∈ q.map.placeWait, y.waiter.party = .pull ∨
      ∃ x ∈ p.map.placeWait, x.waiter.party = y.waiter.party
  | .store => q.store = p.store
  | .growth => ∃ new, Growth p.store q.store p.bm.channels q.bm.channels new
  | .records => inService p = true → inService q = true ∧ ∀ k, Recorded p k → Recorded q k
  | .st => q.st = p.st
  | .ten => TenRecords p.st → TenRecords q.st
  | .unitAsks => ∀ h, (p.st.lanes.get h).unitAsk = none → (q.st.lanes.get h).unitAsk = none
  | .pru => q.pru = p.pru
  | .plans => q.pru.plans = p.pru.plans ∧ q.pru.classes = p.pru.classes
  | .pulls => q.pru.pulls = p.pru.pulls ∧ q.pru.counters = p.pru.counters
  | .slot => q.pru.slot = p.pru.slot
  | .ahu => q.ahu = p.ahu
  | .heads => q.ahu.heads = p.ahu.heads
  | .feeders => q.ahu.feeders = p.ahu.feeders
  | .storeHold => ∀ h, (p.ahu.heads.get h).storeFault = true → (q.ahu.heads.get h).storeFault = true
  | .kinds => ∀ a ∈ p.ahu.alarms, ∃ b ∈ q.ahu.alarms, b.kind = a.kind ∧ b.source = a.source
  | .bondAlarms => ∀ a ∈ p.ahu.alarms, isBondAlarm a.kind = true → a ∈ q.ahu.alarms
  | .unique => AlarmsUnique p.ahu.alarms → AlarmsUnique q.ahu.alarms
  | .pnc => q.pnc = p.pnc
  | .line => q.pnc = { p.pnc with panels := q.pnc.panels }
  | .views => ∀ i, q.pnc.panels.get i = { p.pnc.panels.get i with
      dirty := (q.pnc.panels.get i).dirty
      selection := (q.pnc.panels.get i).selection
      beep := (q.pnc.panels.get i).beep }

theorem Growth.refl (s : RecordStore) (c : Two Channel) : Growth s s c c [] where
  queue := (List.append_nil _).symm
  config := rfl
  firstFault := rfl
  timeouts := rfl
  faulted := le_rfl
  state := by simp
  outOfService _ := ⟨rfl, rfl, rfl⟩
  atStart hd hg := ⟨hd, hg⟩
  slots _ _ := .inl rfl

/-- A store that grew is in service exactly if it was. -/
theorem Growth.serves_eq {s t : RecordStore} {c d : Two Channel} {new : List Request} (g : Growth s t c d new) :
    t.state.serves = s.state.serves := by
  rw [g.state]
  split
  next h => rw [h.1]; rfl
  next => rfl

theorem Growth.trans {r s t : RecordStore} {b c d : Two Channel} {xs ys : List Request} (g : Growth r s b c xs)
    (g' : Growth s t c d ys) : Growth r t b d (xs ++ ys) where
  queue := by rw [g'.queue, g.queue, List.append_assoc]
  config := g'.config.trans g.config
  firstFault := g'.firstFault.trans g.firstFault
  timeouts := g'.timeouts.trans g.timeouts
  faulted := g.faulted.trans g'.faulted
  state := by
    rw [g'.state, g.state]
    by_cases h : r.state = .ready <;> by_cases hx : xs = [] <;> simp [h, hx]
  outOfService h := by
    obtain ⟨hx, hwb, hwp⟩ := g.outOfService h
    obtain ⟨hy, hwb', hwp'⟩ := g'.outOfService (g.serves_eq.trans h)
    exact ⟨by rw [hx, hy]; rfl, hwb'.trans hwb, hwp'.trans hwp⟩
  atStart hd hg :=
    have ⟨hd', hg'⟩ := g.atStart hd hg
    g'.atStart hd' hg'
  slots h x := by
    rcases g'.slots h x with he | ⟨r, hr, hk⟩
    · rcases g.slots h x with he' | ⟨r, hr, hk⟩
      · exact .inl (he.trans he')
      · exact .inr ⟨r, List.mem_append_left _ hr, hk⟩
    · exact .inr ⟨r, List.mem_append_right _ hr, hk⟩

theorem Law.refl (p : Part) (l : Law) : l.Holds p p := by
  cases l with
  | link => exact ⟨rfl, rfl, rfl, rfl⟩
  | outbound => exact List.prefix_refl _
  | owes => exact fun _ h => h
  | lookups => exact fun _ _ c hc => ⟨c, hc, rfl⟩
  | waits => exact fun y hy => .inr ⟨y, hy, rfl⟩
  | growth => exact ⟨[], .refl _ _⟩
  | records => exact fun h => ⟨h, fun _ hk => hk⟩
  | ten => exact fun h => h
  | unitAsks => exact fun _ h => h
  | plans => exact ⟨rfl, rfl⟩
  | pulls => exact ⟨rfl, rfl⟩
  | storeHold => exact fun _ h => h
  | kinds => exact fun a ha => ⟨a, ha, rfl, rfl⟩
  | bondAlarms => exact fun _ ha _ => ha
  | unique => exact fun h => h
  | views => exact fun _ => rfl
  | _ => rfl

theorem Law.trans {p q r : Part} {l : Law} (h : l.Holds p q) (h' : l.Holds q r) : l.Holds p r := by
  cases l with
  | link =>
    obtain ⟨a, b, c, d⟩ := h
    obtain ⟨a', b', c', d'⟩ := h'
    exact ⟨a'.trans a, b'.trans b, c'.trans c, d'.trans d⟩
  | outbound => exact List.IsPrefix.trans h h'
  | owes => exact fun d hp => h' d (h d hp)
  | lookups =>
    intro x i c hc
    obtain ⟨b, hb, e⟩ := h' x i c hc
    obtain ⟨a, ha, e'⟩ := h x i b hb
    exact ⟨a, ha, e'.trans e⟩
  | waits =>
    intro y hy
    rcases h' y hy with hpull | ⟨x, hx, e⟩
    · exact .inl hpull
    · rcases h x hx with hpull | ⟨w, hw, e'⟩
      · exact .inl (e ▸ hpull)
      · exact .inr ⟨w, hw, e'.trans e⟩
  | growth =>
    obtain ⟨xs, g⟩ := h
    obtain ⟨ys, g'⟩ := h'
    exact ⟨xs ++ ys, g.trans g'⟩
  | records =>
    intro hp
    obtain ⟨hq, f⟩ := h hp
    obtain ⟨hr, f'⟩ := h' hq
    exact ⟨hr, fun k hk => f' k (f k hk)⟩
  | ten => exact fun hp => h' (h hp)
  | unitAsks => exact fun x hp => h' x (h x hp)
  | plans => exact ⟨h'.1.trans h.1, h'.2.trans h.2⟩
  | pulls => exact ⟨h'.1.trans h.1, h'.2.trans h.2⟩
  | storeHold => exact fun x hp => h' x (h x hp)
  | kinds =>
    intro a ha
    obtain ⟨b, hb, hk, hs⟩ := h a ha
    obtain ⟨c, hc, hk', hs'⟩ := h' b hb
    exact ⟨c, hc, hk'.trans hk, hs'.trans hs⟩
  | bondAlarms => exact fun a ha hk => h' a (h a ha hk) hk
  | unique => exact fun hp => h' (h hp)
  | line => exact Eq.trans h' (by rw [h])
  | views => exact fun i => (h' i).trans (by rw [h i])
  | _ => exact Eq.trans h' h

/-! ## Which laws a change keeps -/

/-- The change from `p` to `q` keeps every law but those of `broken`. -/
def Keeps (broken : List Law) (p q : Part) : Prop := ∀ l, l ∉ broken → l.Holds p q

theorem Keeps.refl (broken : List Law) (p : Part) : Keeps broken p p := fun l _ => l.refl p

theorem Keeps.mono {s u : List Law} {p q : Part} (h : Keeps s p q) (hs : s ⊆ u := by decide) : Keeps u p q :=
  fun l hl => h l fun hm => hl (hs hm)

/-- One change after another. -/
theorem Keeps.andThen {s t u : List Law} {p q r : Part} (h : Keeps s p q) (h' : Keeps t q r)
    (hs : s ⊆ u := by decide) (ht : t ⊆ u := by decide) : Keeps u p r :=
  fun l hl => Law.trans (h l fun hm => hl (hs hm)) (h' l fun hm => hl (ht hm))

/-- One change after another, by what the two break together. -/
theorem Keeps.trans {s t : List Law} {p q r : Part} (h : Keeps s p q) (h' : Keeps t q r) : Keeps (s ++ t) p r :=
  h.andThen h' (List.subset_append_left ..) (List.subset_append_right ..)

/-- A law that a change keeps although its parts break it. -/
theorem Keeps.mend {s u : List Law} {p q : Part} (l : Law) (h : Keeps s p q) (hl : l.Holds p q)
    (hs : s ⊆ l :: u := by decide) : Keeps u p q := by
  intro k hk
  by_cases e : k = l
  · exact e ▸ hl
  · exact h k fun hm => by
      rcases List.mem_cons.1 (hs hm) with h | h
      · exact e h
      · exact hk h

/-- A change made for each item of a list. -/
theorem Keeps.foldl {α : Type} {s : List Law} {f : Part → α → Part} (hf : ∀ p x, Keeps s p (f p x)) :
    ∀ (xs : List α) (p : Part), Keeps s p (xs.foldl f p)
  | [], p => .refl s p
  | x :: xs, p => (hf p x).andThen (Keeps.foldl hf xs (f p x)) (fun _ h => h) (fun _ h => h)

/-- A change that is made in one case only. -/
theorem Keeps.ite {s : List Law} {c : Prop} [Decidable c] {p q r : Part} (h : c → Keeps s p q)
    (h' : ¬c → Keeps s p r) : Keeps s p (if c then q else r) := by
  split
  next hc => exact h hc
  next hc => exact h' hc

end Sys2Proof.Machine
end

section
/-! PROOFS. Which laws the updates of one block keep. -/

namespace Sys2Proof

@[simp] theorem Two.set_get_self {α : Type} (t : Two α) (h : Side) : t.set h (t.get h) = t := by
  cases h <;> rfl

theorem Two.get_set_eq_ite {α : Type} (t : Two α) (h g : Side) (x : α) :
    (t.set h x).get g = if g = h then x else t.get g := by
  cases h <;> cases g <;> rfl

end Sys2Proof

namespace Sys2Proof.Machine

-- One proof after another: every thread of a compile reserves its own stack.
set_option Elab.async false

/-! ## The ring port -/

/-- A change of the ring port alone, by the laws that speak of it. -/
theorem keeps_setRp {p : Part} {x : RingPort} (station : x.station = p.rp.station)
    (link : x.up = p.rp.up ∧ x.watchdog = p.rp.watchdog ∧ x.period = p.rp.period ∧ x.lastCycle = p.rp.lastCycle)
    (outbound : p.rp.outbound <+: x.outbound) (owes : ∀ d, Owes d p → Owes d (setRp p x)) :
    Keeps [.rp] p (setRp p x) := by
  intro l hl
  have same := l.refl p
  cases l with
  | rp => simp at hl
  | station => exact station
  | link => exact link
  | outbound => exact outbound
  | owes => exact owes
  | _ => exact same

theorem owes_setRp_iff {p : Part} {x : RingPort} (ho : x.outbound = p.rp.outbound)
    (hr : x.reservations = p.rp.reservations) (d : Nat) : Owes d (setRp p x) ↔ Owes d p := by
  simp only [Owes, outboundTotal, noticeCount, heldRequests, setRp_rp, setRp_st, setRp_cu, ho, hr]

theorem keeps_countRing (p : Part) (f : RingCounters → RingCounters) : Keeps [.rp] p (countRing p f) :=
  keeps_setRp rfl ⟨rfl, rfl, rfl, rfl⟩ (List.prefix_refl _) fun d => (owes_setRp_iff rfl rfl d).2

theorem offerNotice_eq_setRp (p : Part) (k : Nat) (x : List Byte) :
    offerNotice p k x = setRp p (offerNotice p k x).rp := by
  unfold offerNotice
  dsimp only
  split <;> rfl

/-- A notice is the only parcel that joins without a reservation, and only while there is room (R168). -/
theorem owes_offerNotice {d : Nat} {p : Part} (h : Owes d p) (k : Nat) (x : List Byte) :
    Owes d (offerNotice p k x) := by
  obtain ⟨hr, ht, hn⟩ := h
  have hheld : heldRequests (offerNotice p k x) = heldRequests p := by
    simp only [heldRequests, offerNotice_st, offerNotice_cu]
  rcases offerNotice_cases p k x with ⟨hn', ht', e⟩ | ⟨-, e⟩
  · refine ⟨by rw [offerNotice_reservations, hheld, hr], ?_, ?_⟩
    · simp only [outboundTotal, e, List.length_append, List.length_singleton] at ht' ⊢
      omega
    · simp only [noticeCount, e, List.countP_append, List.countP_singleton] at hn' ⊢
      split <;> omega
  · refine ⟨by rw [offerNotice_reservations, hheld, hr], ?_, ?_⟩
    · simpa only [outboundTotal, e] using ht
    · simpa only [noticeCount, e] using hn

theorem keeps_offerNotice (p : Part) (k : Nat) (x : List Byte) : Keeps [.rp] p (offerNotice p k x) := by
  rw [offerNotice_eq_setRp]
  refine keeps_setRp (offerNotice_station ..) ?_ ?_ fun d h => offerNotice_eq_setRp p k x ▸ owes_offerNotice h k x
  · rcases offerNotice_cases p k x with ⟨-, -, e⟩ | ⟨-, e⟩ <;> simp [e]
  · rcases offerNotice_cases p k x with ⟨-, -, e⟩ | ⟨-, e⟩ <;> simp [e]

theorem keeps_offerIf (b : Bool) (p : Part) (k : Nat) (x : List Byte) : Keeps [.rp] p (offerIf b p k x) :=
  .ite (fun _ => keeps_offerNotice p k x) fun _ => .refl _ p

theorem keeps_offerVerdict (p : Part) (c : Context) (j : Judgement) (k : Option (BitVec 32)) :
    Keeps [.rp] p (offerVerdict p c j k) := keeps_offerIf _ _ _ _

theorem keeps_offerStrip (p : Part) (x : List Byte) : Keeps [.rp] p (offerStrip p x) := keeps_offerIf _ _ _ _

theorem keeps_offerPull (p : Part) (k : Option (BitVec 32)) (r : PullRecord) : Keeps [.rp] p (offerPull p k r) :=
  keeps_offerIf _ _ _ _

theorem keeps_offerAlarm (p : Part) (x : AlarmAction) (a : Alarm) : Keeps [.rp] p (offerAlarm p x a) :=
  keeps_offerIf _ _ _ _

theorem keeps_offerBondWrap (p : Part) (k : BitVec 32) (n : Nat) : Keeps [.rp] p (offerBondWrap p k n) :=
  keeps_offerIf _ _ _ _

theorem keeps_offerPullWrap (p : Part) (k : BitVec 32) (n : Nat) : Keeps [.rp] p (offerPullWrap p k n) :=
  keeps_offerIf _ _ _ _

theorem keeps_offerStore (p : Part) : Keeps [.rp] p (offerStore p) := keeps_offerNotice _ _ _

/-! ## Replies -/

theorem outboundTotal_giveReply {p : Part} (h : 0 < p.rp.reservations) (k : Byte) (a : Ask) (pl : List Byte) :
    outboundTotal (giveReply p k a pl) = outboundTotal p := by
  simp only [outboundTotal, giveReply_outbound, giveReply_reservations, List.length_append, List.length_singleton]
  omega

theorem noticeCount_giveReply (p : Part) {k : Byte} (hk : k ≠ 0x12) (a : Ask) (pl : List Byte) :
    noticeCount (giveReply p k a pl) = noticeCount p := by
  simp only [noticeCount, giveReply_outbound, List.countP_append, List.countP_singleton, isNotice, beq_iff_eq,
    if_neg hk, Nat.add_zero]

/-- A reply pays for one request. -/
theorem owes_giveReply {d : Nat} {p : Part} (h : Owes (d + 1) p) {k : Byte} (hk : k ≠ 0x12) (a : Ask)
    (pl : List Byte) : Owes d (giveReply p k a pl) := by
  obtain ⟨hr, ht, hn⟩ := h
  refine ⟨?_, (outboundTotal_giveReply (by omega) k a pl).trans_le ht, (noticeCount_giveReply p hk a pl).trans_le hn⟩
  simp only [heldRequests, giveReply_reservations, giveReply_st, giveReply_cu] at hr ⊢
  omega

/-- A reply keeps all but the count of what is owed. -/
theorem keeps_giveReply (p : Part) (k : Byte) (a : Ask) (pl : List Byte) :
    Keeps [.rp, .owes] p (giveReply p k a pl) := by
  intro l hl
  have same := l.refl p
  cases l with
  | rp => simp at hl
  | owes => simp at hl
  | outbound => exact ⟨_, rfl⟩
  | _ => exact same

/-- The command in progress holds one request until its reply. -/
theorem owes_setCu_none {d : Nat} {p : Part} {c : InProgress} (hc : p.cu.inProgress = some c) {x : CommandUnit}
    (hx : x.inProgress = none) : Owes (d + 1) (setCu p x) ↔ Owes d p := by
  simp only [Owes, heldRequests, outboundTotal, noticeCount, setCu_rp, setCu_st, setCu_cu, hc, hx, Option.toList_some,
    Option.toList_none, List.length_nil, List.length_singleton]
  omega

theorem keeps_setCu {p : Part} {x : CommandUnit} (h : x.inProgress = p.cu.inProgress) :
    Keeps [.cu] p (setCu p x) := by
  intro l hl
  have same := l.refl p
  cases l with
  | cu => simp at hl
  | owes =>
    intro d hp
    simpa only [Owes, heldRequests, outboundTotal, noticeCount, setCu_rp, setCu_st, setCu_cu, h] using hp
  | _ => exact same

/-- A reply of the Command Unit pays for the command in progress. -/
theorem keeps_answer {p : Part} {c : InProgress} (hc : p.cu.inProgress = some c) {x : CommandUnit}
    (hx : x.inProgress = none) (a : Ask) (pl : List Byte) :
    Keeps [.rp, .cu] p (setCu (giveReply p 0x11 a pl) x) := by
  intro l hl
  have same := l.refl p
  cases l with
  | rp => simp at hl
  | cu => simp at hl
  | outbound => exact ⟨_, rfl⟩
  | owes =>
    intro d hp
    exact owes_giveReply ((owes_setCu_none hc hx).2 hp) (k := 0x11) (by decide) a pl
  | _ => exact same

theorem keeps_replyDone (p : Part) (d : List Byte) : Keeps [.rp, .cu] p (replyDone p d) := by
  unfold replyDone
  split
  next => exact .refl _ p
  next c hc => exact keeps_answer hc rfl _ _

theorem keeps_replyRefused (p : Part) (r : Reason) : Keeps [.rp, .cu] p (replyRefused p r) := by
  unfold replyRefused
  split
  next => exact .refl _ p
  next c hc => exact keeps_answer hc rfl _ _

/-! ## The panels -/

/-- A change of the panels' views alone. -/
theorem keeps_setPnc {p : Part} {x : PanelController} (line : x = { p.pnc with panels := x.panels })
    (views : Law.views.Holds p (setPnc p x)) : Keeps [.pnc] p (setPnc p x) := by
  intro l hl
  have same := l.refl p
  cases l with
  | pnc => simp at hl
  | line => exact line
  | views => exact views
  | _ => exact same

/-- Any change of the Panel Controller. -/
theorem keeps_setPnc_any (p : Part) (x : PanelController) : Keeps [.pnc, .line, .views] p (setPnc p x) := by
  intro l hl
  have same := l.refl p
  cases l with
  | pnc => simp at hl
  | line => simp at hl
  | views => simp at hl
  | _ => exact same

theorem keeps_modPanels {p : Part} {f : Panel → Panel} (hf : ∀ x, f x = { x with
      dirty := (f x).dirty
      selection := (f x).selection
      beep := (f x).beep }) : Keeps [.pnc] p (modPanels p f) :=
  keeps_setPnc rfl fun i => by
    simp only [setPnc_pnc, vmap_get]
    exact hf _

theorem keeps_markLive (b p : Part) : Keeps [.pnc] p (markLive b p) :=
  keeps_modPanels fun x => by split <;> rfl

theorem Keeps.tracked {s : List Law} {f : Part → Part} {p : Part} (h : Keeps s p (f p)) :
    Keeps (.pnc :: s) p (tracked f p) :=
  h.andThen (keeps_markLive p (f p)) (List.subset_cons_self ..) (by simp)

theorem markAlarmLines_view (x : Panel) : markAlarmLines x = { x with dirty := (markAlarmLines x).dirty } := by
  unfold markAlarmLines
  split <;> rfl

theorem setSelection_view (x : Panel) (s : Option (BitVec 16)) :
    setSelection x s = { x with dirty := (setSelection x s).dirty, selection := s } := by
  unfold setSelection
  split
  next h => subst h; rfl
  next =>
    have := markAlarmLines_view { x with selection := s }
    rw [this]

theorem keeps_followDeparture (p : Part) (as : List Alarm) (n : BitVec 16) :
    Keeps [.pnc] p (followDeparture p as n) :=
  keeps_modPanels fun x => by
    split
    next =>
      split
      next => rw [markAlarmLines_view, setSelection_view]
      next => rw [markAlarmLines_view]
    next => rfl

theorem keeps_followJoin (p : Part) (as : List Alarm) (n : BitVec 16) : Keeps [.pnc] p (followJoin p as n) :=
  keeps_modPanels fun x => by
    split
    next =>
      split
      next => rw [markAlarmLines_view, setSelection_view]
      next => rw [markAlarmLines_view]
    next => rfl

theorem keeps_followChange (p : Part) : Keeps [.pnc] p (followChange p) :=
  keeps_modPanels fun x => by
    split
    next => rw [markAlarmLines_view]
    next => rfl

/-! ## Alarms and holds -/

/-- A change of the Alarm and Hold Unit's alarms, by the laws that speak of them. -/
theorem keeps_setAhu {p : Part} {x : AlarmUnit} (heads : x.heads = p.ahu.heads) (feeders : x.feeders = p.ahu.feeders)
    (kinds : Law.kinds.Holds p (setAhu p x)) (bonds : Law.bondAlarms.Holds p (setAhu p x))
    (unique : AlarmsUnique p.ahu.alarms → AlarmsUnique x.alarms) : Keeps [.ahu] p (setAhu p x) := by
  intro l hl
  have same := l.refl p
  cases l with
  | ahu => simp at hl
  | heads => exact heads
  | feeders => exact feeders
  | storeHold => exact fun h hh => by simpa only [setAhu_ahu, heads] using hh
  | kinds => exact kinds
  | bondAlarms => exact bonds
  | unique => exact unique
  | _ => exact same

/-- A change of the Alarm and Hold Unit that leaves the alarm list and the hold sets. -/
theorem keeps_setAhu_rest {p : Part} {x : AlarmUnit} (alarms : x.alarms = p.ahu.alarms)
    (heads : x.heads = p.ahu.heads) (feeders : x.feeders = p.ahu.feeders) : Keeps [.ahu] p (setAhu p x) :=
  keeps_setAhu heads feeders (by simpa [Law.Holds, alarms] using Law.refl p .kinds)
    (by simpa [Law.Holds, alarms] using Law.refl p .bondAlarms) (by rw [alarms]; exact id)

theorem keeps_countAlarms (p : Part) (f : AlarmCounters → AlarmCounters) : Keeps [.ahu] p (countAlarms p f) :=
  keeps_setAhu_rest rfl rfl rfl

/-- A change of a head's hold set that leaves a STORE_FAULT in it. -/
theorem keeps_modHead {p : Part} {h : Side} {f : HeadHolds → HeadHolds}
    (hf : ∀ x, x.storeFault = true → (f x).storeFault = true) : Keeps [.ahu, .heads, .pnc] p (modHead p h f) := by
  refine (Keeps.tracked (s := [.ahu, .heads]) ?_).mono
  intro l hl
  have same := l.refl p
  cases l with
  | ahu => simp at hl
  | heads => simp at hl
  | storeHold =>
    intro g hg
    show ((p.ahu.heads.set h (f (p.ahu.heads.get h))).get g).storeFault = true
    rw [Two.get_set_eq_ite]
    split
    next e => exact hf _ (e ▸ hg)
    next => exact hg
  | _ => exact same

/-- Any change of a head's hold set. -/
theorem keeps_modHead_any (p : Part) (h : Side) (f : HeadHolds → HeadHolds) :
    Keeps [.ahu, .heads, .storeHold, .pnc] p (modHead p h f) := by
  refine (Keeps.tracked (s := [.ahu, .heads, .storeHold]) ?_).mono
  intro l hl
  have same := l.refl p
  cases l with
  | ahu => simp at hl
  | heads => simp at hl
  | storeHold => simp at hl
  | _ => exact same

theorem keeps_modFeeder (p : Part) (l : Side) (f : FeederHolds → FeederHolds) :
    Keeps [.ahu, .feeders] p (modFeeder p l f) := by
  intro l hl
  have same := l.refl p
  cases l with
  | ahu => simp at hl
  | feeders => simp at hl
  | _ => exact same

theorem addHeadReason_storeFault {x : HeadHolds} (hx : x.storeFault = true) (k : AlarmKind) (s : AlarmSource)
    (h : Side) : (addHeadReason k s h x).storeFault = true := by
  cases k <;> simp only [addHeadReason, hx, apply_ite HeadHolds.storeFault, ite_self]

/-- The laws that a raise with a hold reason breaks. -/
def raiseBroken : List Law := [.rp, .ahu, .heads, .feeders, .bondAlarms, .pnc]

/-- The laws that a raise without a hold reason, and not for a bond, breaks. -/
def quietBroken : List Law := [.rp, .ahu, .pnc]

/-- A kind of alarm whose raise adds no hold reason and is not for a bond (R123). -/
def isQuiet : AlarmKind → Bool
  | .monitorOverrun | .pullExpired | .outputFull | .inputEmpty | .stripStarved | .ringLost | .panelAbsent => true
  | _ => false

theorem keeps_addReasons (p : Part) (k : AlarmKind) (s : AlarmSource) :
    Keeps [.ahu, .heads, .feeders, .pnc] p (addReasons p k s) := by
  have hz := keeps_modHead (p := p) (h := .zero) (f := addHeadReason k s .zero)
    fun x hx => addHeadReason_storeFault hx k s .zero
  have ho := keeps_modHead (p := modHead p .zero (addHeadReason k s .zero)) (h := .one)
    (f := addHeadReason k s .one) fun x hx => addHeadReason_storeFault hx k s .one
  have hheads : Keeps [.ahu, .heads, .pnc] p _ := hz.andThen ho
  have hfeeders : Keeps [.ahu, .feeders] _ (addReasons p k s) :=
    (keeps_modFeeder _ .zero (addFeederReason k s .zero)).andThen
      (keeps_modFeeder _ .one (addFeederReason k s .one))
  exact hheads.andThen hfeeders

end Sys2Proof.Machine
end

section
/-! PROOFS. Which laws the raises and departures of alarms, and the updates of the store, the map cache, the strips,
the pulls and the channels keep. -/

namespace Sys2Proof.Machine

-- One proof after another: every thread of a compile reserves its own stack.
set_option Elab.async false

/-! ## The alarm list (R120 to R126) -/

theorem sameAlarm_iff (k : AlarmKind) (s : AlarmSource) (a : Alarm) :
    sameAlarm k s a = true ↔ a.kind = k ∧ a.source = s := by
  simp only [sameAlarm, Bool.and_eq_true, beq_iff_eq]

theorem find?_sameAlarm_eq_none_iff (as : List Alarm) (k : AlarmKind) (s : AlarmSource) :
    as.find? (sameAlarm k s) = none ↔ ∀ a ∈ as, ¬(a.kind = k ∧ a.source = s) := by
  simp only [List.find?_eq_none, sameAlarm_iff]

@[simp] theorem coalesced_kind (now : BitVec 32) (x : Option Subject) (a : Alarm) :
    (coalesced now x a).kind = a.kind := rfl

@[simp] theorem coalesced_source (now : BitVec 32) (x : Option Subject) (a : Alarm) :
    (coalesced now x a).source = a.source := rfl

/-- The list after a coalesced raise has the kinds and sources that it had. -/
def foldIn (k : AlarmKind) (s : AlarmSource) (now : BitVec 32) (x : Option Subject) (a : Alarm) : Alarm :=
  if sameAlarm k s a then coalesced now x a else a

theorem foldIn_kind (k : AlarmKind) (s : AlarmSource) (now : BitVec 32) (x : Option Subject) (a : Alarm) :
    (foldIn k s now x a).kind = a.kind := by
  unfold foldIn
  split <;> rfl

theorem foldIn_source (k : AlarmKind) (s : AlarmSource) (now : BitVec 32) (x : Option Subject) (a : Alarm) :
    (foldIn k s now x a).source = a.source := by
  unfold foldIn
  split <;> rfl

theorem foldIn_of_ne {k : AlarmKind} {a : Alarm} (h : a.kind ≠ k) (s : AlarmSource) (now : BitVec 32)
    (x : Option Subject) : foldIn k s now x a = a :=
  if_neg fun e => h ((sameAlarm_iff ..).1 e).1

theorem alarmsUnique_append {as : List Alarm} {a : Alarm} (h : AlarmsUnique as)
    (hn : ∀ b ∈ as, ¬(b.kind = a.kind ∧ b.source = a.source)) : AlarmsUnique (as ++ [a]) :=
  List.pairwise_append.2 ⟨h, List.pairwise_singleton .., fun b hb c hc => by
    rw [List.mem_singleton.1 hc]
    exact hn b hb⟩

theorem alarmsUnique_map {as : List Alarm} {f : Alarm → Alarm} (hk : ∀ a, (f a).kind = a.kind)
    (hs : ∀ a, (f a).source = a.source) (h : AlarmsUnique as) : AlarmsUnique (as.map f) :=
  List.pairwise_map.2 (h.imp fun hab => by simpa only [hk, hs] using hab)

/-- A raise, folded in or not, without its hold reasons and its notice. -/
theorem keeps_setAlarms {p : Part} {as : List Alarm} (kinds : Law.kinds.Holds p (setAlarms p as))
    (bonds : Law.bondAlarms.Holds p (setAlarms p as)) (unique : AlarmsUnique p.ahu.alarms → AlarmsUnique as) :
    Keeps [.ahu, .pnc] p (setAlarms p as) :=
  (Keeps.tracked (keeps_setAhu (x := { p.ahu with alarms := as }) rfl rfl kinds bonds unique)).mono

theorem addHeadReason_quiet {k : AlarmKind} (hk : isQuiet k = true) (s : AlarmSource) (h : Side) (x : HeadHolds) :
    addHeadReason k s h x = x := by
  cases k <;> simp [isQuiet] at hk <;> rfl

theorem addFeederReason_quiet {k : AlarmKind} (hk : isQuiet k = true) (s : AlarmSource) (l : Side)
    (x : FeederHolds) : addFeederReason k s l x = x := by
  cases k <;> simp [isQuiet] at hk <;> rfl

@[simp] theorem modFeeder_ahu (p : Part) (l : Side) (f : FeederHolds → FeederHolds) :
    (modFeeder p l f).ahu = { p.ahu with feeders := p.ahu.feeders.set l (f (p.ahu.feeders.get l)) } := rfl

/-- A quiet kind leaves the hold sets. -/
theorem addReasons_ahu_quiet {k : AlarmKind} (hk : isQuiet k = true) (p : Part) (s : AlarmSource) :
    (addReasons p k s).ahu = p.ahu := by
  simp [addReasons, addHeadReason_quiet hk, addFeederReason_quiet hk]

theorem keeps_addReasons_quiet {k : AlarmKind} (hk : isQuiet k = true) (p : Part) (s : AlarmSource) :
    Keeps [.ahu, .pnc] p (addReasons p k s) := by
  have heads : (addReasons p k s).ahu.heads = p.ahu.heads := congrArg _ (addReasons_ahu_quiet hk p s)
  have feeders : (addReasons p k s).ahu.feeders = p.ahu.feeders := congrArg _ (addReasons_ahu_quiet hk p s)
  have h : Keeps [.ahu, .feeders, .pnc] p (addReasons p k s) := (keeps_addReasons p k s).mend .heads heads
  exact h.mend .feeders feeders

/-- The list with a new entry at its tail (R122). -/
theorem keeps_setAlarms_append (p : Part) {a : Alarm}
    (h : ∀ b ∈ p.ahu.alarms, ¬(b.kind = a.kind ∧ b.source = a.source)) :
    Keeps [.ahu, .pnc] p (setAlarms p (p.ahu.alarms ++ [a])) :=
  keeps_setAlarms (fun b hb => ⟨b, List.mem_append_left _ hb, rfl, rfl⟩)
    (fun _ hb _ => List.mem_append_left _ hb) fun hu => alarmsUnique_append hu h

/-- The list with a raise folded into its entry (R122). -/
theorem keeps_setAhu_foldIn (p : Part) (k : AlarmKind) (s : AlarmSource) (now : BitVec 32) (x : Option Subject) :
    Keeps [.ahu, .bondAlarms] p (setAhu p { p.ahu with alarms := p.ahu.alarms.map (foldIn k s now x) }) := by
  intro l hl
  have same := l.refl p
  cases l with
  | ahu => simp at hl
  | bondAlarms => simp at hl
  | kinds => exact fun a ha => ⟨_, List.mem_map_of_mem ha, foldIn_kind .., foldIn_source ..⟩
  | unique => exact fun hu => alarmsUnique_map (foldIn_kind k s now x) (foldIn_source k s now x) hu
  | _ => exact same

theorem isBondAlarm_of_quiet {k : AlarmKind} (hk : isQuiet k = true) : isBondAlarm k = false := by
  cases k <;> simp [isQuiet] at hk <;> rfl

/-- What a raise breaks besides its hold reasons, which are said by `reasons`. -/
theorem keeps_raiseAlarm_of {u : List Law} {k : AlarmKind} {s : AlarmSource} (hu : [.rp, .ahu, .pnc] ⊆ u)
    (reasons : ∀ q, Keeps u q (addReasons q k s)) (fold : .bondAlarms ∈ u ∨ isQuiet k = true) (p : Part)
    (x : Option Subject) : Keeps u p (raiseAlarm p k s x) := by
  have hahu : [.ahu] ⊆ u := fun _ h => hu (by simp_all)
  have hpnc : [.pnc] ⊆ u := fun _ h => hu (by simp_all)
  have hrp : [.rp] ⊆ u := fun _ h => hu (by simp_all)
  have all {v : List Law} : v ⊆ v := fun _ h => h
  unfold raiseAlarm
  split
  next hnone =>
    have fresh := (find?_sameAlarm_eq_none_iff ..).1 hnone
    have joined := keeps_setAlarms_append p (a := ⟨p.ahu.nextNumber, k, s, x, 1, p.time, p.time⟩) fresh
    have joined' : Keeps u p _ := joined.mono fun _ h => hu (by simp_all)
    refine joined'.andThen (Keeps.andThen ?_ (Keeps.andThen (keeps_countAlarms _ _)
      ((reasons _).andThen ((keeps_offerAlarm _ .raised _).andThen (keeps_followJoin _ _ _) hrp hpnc)
        all all) hahu all) hahu all) all all
    exact keeps_setAhu_rest rfl rfl rfl
  next a ha =>
    have folded : Keeps u p (setAhu p { p.ahu with alarms := p.ahu.alarms.map (foldIn k s p.time x) }) := by
      intro l hl
      by_cases e : l = .bondAlarms
      · subst e
        have hk := fold.resolve_left hl
        intro b hb hbond
        have hne : b.kind ≠ k := fun e => by simp [e, isBondAlarm_of_quiet hk] at hbond
        exact List.mem_map.2 ⟨b, hb, foldIn_of_ne hne s p.time x⟩
      · exact keeps_setAhu_foldIn p k s p.time x l (by simp [e]; exact fun h => hl (h ▸ hu (by simp)))
    exact folded.andThen (Keeps.andThen (keeps_countAlarms _ _)
      ((reasons _).andThen ((keeps_offerAlarm _ .coalesced _).andThen (keeps_followChange _) hrp hpnc)
        all all) hahu all) all all

theorem keeps_raiseAlarm (p : Part) (k : AlarmKind) (s : AlarmSource) (x : Option Subject) :
    Keeps raiseBroken p (raiseAlarm p k s x) :=
  keeps_raiseAlarm_of (by decide) (fun q => (keeps_addReasons q k s).mono) (.inl (by decide)) p x

theorem keeps_raiseAlarm_quiet {k : AlarmKind} (hk : isQuiet k = true) (p : Part) (s : AlarmSource)
    (x : Option Subject) : Keeps quietBroken p (raiseAlarm p k s x) :=
  keeps_raiseAlarm_of (by decide) (fun q => (keeps_addReasons_quiet hk q s).mono) (.inr hk) p x

/-- An entry leaves the list (R124, R126). -/
theorem keeps_takeOutAlarm (p : Part) (a : Alarm) :
    Keeps [.ahu, .kinds, .bondAlarms, .pnc] p (takeOutAlarm p a) := by
  have taken : Keeps [.ahu, .kinds, .bondAlarms] p
      (setAhu p { p.ahu with alarms := p.ahu.alarms.filter fun b => b.number != a.number }) := by
    intro l hl
    have same := l.refl p
    cases l with
    | ahu => simp at hl
    | kinds => simp at hl
    | bondAlarms => simp at hl
    | unique => exact fun hu => hu.filter _
    | _ => exact same
  exact (Keeps.tracked taken).andThen (keeps_followDeparture _ _ _)

/-! ## The store -/

/-- A store that grew, the channels but for their write slots as they were. -/
theorem keeps_setStore {p : Part} {x : RecordStore} {new : List Request}
    (g : Growth p.store x p.bm.channels p.bm.channels new) : Keeps [.store] p (setStore p x) := by
  intro l hl
  have same := l.refl p
  cases l with
  | store => simp at hl
  | growth => exact ⟨new, g⟩
  | records =>
    intro hp
    refine ⟨by rwa [inService_eq_serves, setStore_store, g.serves_eq, ← inService_eq_serves], ?_⟩
    rintro k (hk | ⟨w, hw, hkind, hdata⟩)
    · exact .inl hk
    · exact .inr ⟨w, by rw [setStore_store, g.queue]; exact List.mem_append_left _ hw, hkind, hdata⟩
  | _ => exact same

theorem growth_counters {s : RecordStore} {c : Two Channel} {x : StoreCounters}
    (timeouts : x.timeouts = s.counters.timeouts) (faulted : s.counters.faulted.toNat ≤ x.faulted.toNat) :
    Growth s { s with counters := x } c c [] :=
  { Growth.refl s c with timeouts := timeouts, faulted := faulted }

theorem toNat_le_inc (c : Count) : c.toNat ≤ (inc c).toNat := by
  rcases inc_cases c with ⟨-, e⟩ | ⟨hne, e⟩
  · rw [e]
  · rw [e]
    have : c.toNat ≠ 65535 := fun h => hne (by simpa using BitVec.eq_of_toNat_eq (y := 0xFFFF#16) h)
    bv_omega

theorem keeps_countFaulted (p : Part) : Keeps [.store] p (countFaulted p) :=
  keeps_setStore (growth_counters rfl (toNat_le_inc _))

theorem growth_wb {s : RecordStore} (hs : s.state.serves = true) (c : Two Channel) (k : BitVec 32) :
    Growth s { s with wb := k } c c [] :=
  { Growth.refl s c with outOfService := fun h => by simp [hs] at h }

theorem growth_wp {s : RecordStore} (hs : s.state.serves = true) (c : Two Channel) (k : BitVec 32) :
    Growth s { s with wp := k } c c [] :=
  { Growth.refl s c with outOfService := fun h => by simp [hs] at h }

/-- A request handed in while the store is in service (R57). -/
theorem growth_enqueue {p : Part} (hs : inService p = true) (r : Request) :
    Growth p.store (enqueue p r).store p.bm.channels p.bm.channels [r] := by
  have out : p.store.state.serves = true := by rwa [← inService_eq_serves]
  unfold enqueue
  split
  next h =>
    exact { Growth.refl p.store p.bm.channels with
      queue := rfl, state := by simp [h], outOfService := fun h => by simp [out] at h
      atStart := fun _ _ => ⟨rfl, rfl⟩, slots := fun _ _ => .inl rfl }
  next h =>
    exact { Growth.refl p.store p.bm.channels with
      queue := rfl, state := by simp [h], outOfService := fun h => by simp [out] at h
      slots := fun _ _ => .inl rfl }

theorem enqueue_eq_setStore (p : Part) (r : Request) : enqueue p r = setStore p (enqueue p r).store := by
  unfold enqueue
  dsimp only
  split <;> rfl

theorem keeps_enqueue {p : Part} (hs : inService p = true) (r : Request) : Keeps [.store] p (enqueue p r) := by
  rw [enqueue_eq_setStore]
  exact keeps_setStore (growth_enqueue hs r)

/-! ## The map cache -/

theorem keeps_setMap {p : Part} {x : MapCache} (slots : x.slots = p.map.slots)
    (waits : ∀ y ∈ x.placeWait, y.waiter.party = .pull ∨ ∃ w ∈ p.map.placeWait, w.waiter.party = y.waiter.party) :
    Keeps [.map] p (setMap p x) := by
  intro l hl
  have same := l.refl p
  cases l with
  | map => simp at hl
  | mapSlots => exact slots
  | waits => exact waits
  | _ => exact same

/-- A change of the map cache that drops lookups from the place-wait list or leaves it. -/
theorem keeps_setMap_of_subset {p : Part} {x : MapCache} (slots : x.slots = p.map.slots)
    (waits : x.placeWait ⊆ p.map.placeWait) : Keeps [.map] p (setMap p x) :=
  keeps_setMap slots fun y hy => .inr ⟨y, waits hy, rfl⟩

theorem keeps_setMap_any (p : Part) (x : MapCache) : Keeps [.map, .mapSlots, .waits] p (setMap p x) := by
  intro l hl
  have same := l.refl p
  cases l with
  | map => simp at hl
  | mapSlots => simp at hl
  | waits => simp at hl
  | _ => exact same

theorem keeps_countMap (p : Part) (f : MapCounters → MapCounters) : Keeps [.map] p (countMap p f) :=
  keeps_setMap_of_subset rfl fun _ h => h

theorem keeps_withdrawLookups (p : Part) (q : Waiter → Bool) : Keeps [.map] p (withdrawLookups p q) :=
  keeps_setMap_of_subset rfl fun _ h => List.mem_of_mem_filter h

theorem keeps_withdrawClass (p : Part) (c : ClassState) : Keeps [.map] p (withdrawClass p c) := by
  cases c with
  | settled => exact .refl _ p
  | resolving s => exact keeps_withdrawLookups p _

theorem keeps_startFetch {p : Part} (hs : inService p = true) (key : MapKey) (ws : List Waiter) :
    Keeps [.store, .map] p (startFetch p key ws) := by
  have queued := keeps_enqueue hs (fetchRequest p key)
  have listed : Keeps [.map] (enqueue p (fetchRequest p key)) (startFetch p key ws) :=
    keeps_setMap_of_subset rfl fun _ h => h
  exact queued.andThen listed

theorem keeps_faultFetch (p : Part) : Keeps [.store, .map] p (faultFetch p) :=
  (keeps_countFaulted p).andThen (keeps_countMap _ _)

theorem inService_countMap (p : Part) (f : MapCounters → MapCounters) : inService (countMap p f) = inService p := rfl

/-- The place-wait list after a lookup has joined it holds that lookup and those before. -/
theorem mem_insertWait {w y : PlaceWait} {l : List PlaceWait} (h : y ∈ insertWait w l) : y = w ∨ y ∈ l := by
  induction l with
  | nil => exact .inl (List.mem_singleton.1 h)
  | cons x xs ih =>
    unfold insertWait at h
    split at h
    next => exact List.mem_cons.1 h
    next =>
      rcases List.mem_cons.1 h with h | h
      · exact .inr (h ▸ List.mem_cons_self)
      · exact (ih h).imp_right (List.mem_cons_of_mem x)

/-- An examination, by what it breaks where the lookup joins the place-wait list. -/
theorem keeps_examineLookup_of {u : List Law} (hu : [.store, .map] ⊆ u) {p : Part} {key : MapKey} {w : Waiter}
    (wait : Keeps u p (setMap p { p.map with placeWait := insertWait ⟨key, w⟩ p.map.placeWait })) (onList : Bool) :
    Keeps u p (examineLookup p key w onList).1 := by
  have all {v : List Law} : v ⊆ v := fun _ h => h
  have hmap : [.map] ⊆ u := fun _ h => hu (by simp_all)
  unfold examineLookup
  split
  next => exact (keeps_countMap p _).mono hmap
  next =>
    split
    next =>
      have joined : Keeps [.map] p (setMap p { p.map with
          fetches := p.map.fetches.map fun f =>
            if f.key = key then { f with waiters := f.waiters ++ [w] } else f }) :=
        keeps_setMap_of_subset rfl fun _ h => h
      exact joined.andThen (keeps_countMap _ _) hmap hmap
    next =>
      split
      next =>
        dsimp only
        split
        next hs => exact (keeps_countMap p _).andThen (keeps_startFetch hs key [w]) hmap hu
        next => exact (keeps_countMap p _).andThen (keeps_faultFetch _) hmap hu
      next =>
        split
        next => exact .refl _ p
        next => exact wait.andThen (keeps_countMap _ _) all hmap

/-- An examination of a lookup that its party had before on the place-wait list, or of the Pull Record Unit. -/
theorem keeps_examineLookup (p : Part) (key : MapKey) (w : Waiter) (onList : Bool)
    (hw : w.party = .pull ∨ ∃ x ∈ p.map.placeWait, x.waiter.party = w.party) :
    Keeps [.store, .map] p (examineLookup p key w onList).1 :=
  keeps_examineLookup_of (by decide) (Keeps.mono (keeps_setMap rfl fun y hy => by
    rcases mem_insertWait hy with e | hy
    · exact e ▸ hw
    · exact .inr ⟨y, hy, rfl⟩)) onList

/-- An examination of any party's lookup. -/
theorem keeps_examineLookup_any (p : Part) (key : MapKey) (w : Waiter) (onList : Bool) :
    Keeps [.store, .map, .waits] p (examineLookup p key w onList).1 := by
  refine keeps_examineLookup_of (by decide) ?_ onList
  exact (keeps_setMap_any p _).mend .mapSlots rfl

theorem keeps_startLookup_pull (p : Part) (key : MapKey) : Keeps [.store, .map] p (startLookup p key .pull).1 := by
  have started : Keeps [.map] p (setMap p { p.map with started := p.map.started + 1 }) :=
    keeps_setMap_of_subset rfl fun _ h => h
  exact started.andThen (keeps_examineLookup _ key _ false (.inl rfl))

theorem keeps_startLookup (p : Part) (key : MapKey) (q : Party) :
    Keeps [.store, .map, .waits] p (startLookup p key q).1 := by
  have started : Keeps [.map] p (setMap p { p.map with started := p.map.started + 1 }) :=
    keeps_setMap_of_subset rfl fun _ h => h
  exact started.andThen (keeps_examineLookup_any _ key _ false)

end Sys2Proof.Machine
end

section
/-! PROOFS. Which laws the updates of the channels, the strips and the pulls keep, and the hand-in of records. -/

namespace Sys2Proof.Machine

-- One proof after another: every thread of a compile reserves its own stack.
set_option Elab.async false

/-! ## The channels -/

/-- Any change of a channel. -/
theorem keeps_modChannel_any (p : Part) (h : Side) (f : Channel → Channel) :
    Keeps [.bm, .lookups, .growth] p (modChannel p h f) := by
  intro l hl
  have same := l.refl p
  cases l with
  | bm => simp at hl
  | lookups => simp at hl
  | growth => simp at hl
  | _ => exact same

theorem modChannel_channels (p : Part) (h : Side) (f : Channel → Channel) :
    (modChannel p h f).bm.channels = p.bm.channels.set h (f (p.bm.channels.get h)) := rfl

/-- A change of a channel that leaves its write slots and the lookups of its contexts. -/
theorem keeps_modChannel {p : Part} {h : Side} {f : Channel → Channel}
    (slots : ∀ c : Channel, (f c).slots = c.slots)
    (lookups : ∀ (c : Channel) i x, (f c).contexts.get i = some x →
      ∃ y, c.contexts.get i = some y ∧ y.lookup = x.lookup) : Keeps [.bm] p (modChannel p h f) := by
  have hl : Law.lookups.Holds p (modChannel p h f) := by
    intro g i x hx
    simp only [contextOf, modChannel_channels, Two.get_set_eq_ite] at hx ⊢
    split at hx
    next e => exact e ▸ lookups _ i x hx
    next => exact ⟨x, hx, rfl⟩
  have hg : Law.growth.Holds p (modChannel p h f) := by
    refine ⟨[], { Growth.refl p.store p.bm.channels with slots := fun g x => .inl ?_ }⟩
    simp only [writeSlot, modChannel_channels, Two.get_set_eq_ite]
    split
    next e => rw [slots, e]
    next => rfl
  have any : Keeps [.bm, .growth] p (modChannel p h f) := (keeps_modChannel_any p h f).mend .lookups hl
  exact any.mend .growth hg

theorem keeps_countChannel (p : Part) (h : Side) (f : ChannelCounters → ChannelCounters) :
    Keeps [.bm] p (countChannel p h f) :=
  keeps_modChannel (fun _ => rfl) fun _ _ x hx => ⟨x, hx, rfl⟩

/-- A change of a context that leaves its lookup. -/
theorem keeps_modContext {p : Part} {h : Side} {i : Fin 4} {f : Context → Context}
    (hf : ∀ c, (f c).lookup = c.lookup) : Keeps [.bm] p (modContext p h i f) :=
  keeps_modChannel (fun _ => rfl) fun c j x hx => by
    by_cases e : j = i
    · subst e
      rw [vmod_get_same, Option.map_eq_some_iff] at hx
      obtain ⟨y, hy, rfl⟩ := hx
      exact ⟨y, hy, (hf y).symm⟩
    · rw [vmod_get_other _ _ _ _ e] at hx
      exact ⟨x, hx, rfl⟩

theorem keeps_modContext_any (p : Part) (h : Side) (i : Fin 4) (f : Context → Context) :
    Keeps [.bm, .lookups] p (modContext p h i f) := by
  have any : Keeps [.bm, .lookups, .growth] p (modContext p h i f) :=
    keeps_modChannel_any p h _
  refine any.mend .growth ⟨[], { Growth.refl p.store p.bm.channels with slots := fun g x => .inl ?_ }⟩
  simp only [writeSlot, modContext, modChannel_channels, Two.get_set_eq_ite]
  split
  next e => rw [e]
  next => rfl

theorem keeps_recordIssue (p : Part) (h : Side) (j : Judgement) : Keeps [.bm, .pnc] p (recordIssue p h j) := by
  refine (Keeps.tracked (s := [.bm]) ?_).mono
  exact keeps_modChannel (fun _ => rfl) fun _ _ x hx => ⟨x, hx, rfl⟩

theorem keeps_freeContext (p : Part) (h : Side) (i : Fin 4) : Keeps [.bm] p (freeContext p h i) :=
  keeps_modChannel (fun _ => rfl) fun c j x hx => by
    by_cases e : j = i
    · subst e
      rw [vset_get_same] at hx
      cases hx
    · rw [vset_get_other _ _ _ _ e] at hx
      exact ⟨x, hx, rfl⟩

/-! ## The strips -/

/-- A change of the Strip Tracker, by the laws that speak of it. -/
theorem keeps_setSt {p : Part} {x : StripTracker} (ten : TenRecords p.st → TenRecords x)
    (asks : ∀ h, laneAsks (x.lanes.get h) = laneAsks (p.st.lanes.get h))
    (unitAsks : ∀ h, (p.st.lanes.get h).unitAsk = none → (x.lanes.get h).unitAsk = none) :
    Keeps [.st] p (setSt p x) := by
  intro l hl
  have same := l.refl p
  cases l with
  | st => simp at hl
  | ten => exact ten
  | owes =>
    intro d hp
    have hz : laneAsks x.lanes.zero = laneAsks p.st.lanes.zero := asks .zero
    have ho : laneAsks x.lanes.one = laneAsks p.st.lanes.one := asks .one
    simpa only [Owes, heldRequests, outboundTotal, noticeCount, setSt_rp, setSt_st, setSt_cu, hz, ho] using hp
  | unitAsks => exact unitAsks
  | _ => exact same

/-- A change of the Strip Tracker that leaves its lanes and moves no record. -/
theorem keeps_setSt_rest {p : Part} {x : StripTracker} (lanes : x.lanes = p.st.lanes) (pool : x.pool = p.st.pool)
    (purged : x.purged.length = p.st.purged.length) : Keeps [.st] p (setSt p x) :=
  keeps_setSt (fun h => by simpa only [TenRecords, lanes, pool, purged] using h) (fun h => by rw [lanes])
    fun h hn => by rwa [lanes]

theorem keeps_countStrips (p : Part) (f : StripCounters → StripCounters) : Keeps [.st] p (countStrips p f) :=
  keeps_setSt_rest rfl rfl rfl

theorem keeps_setInMap (p : Part) (m : Vector InSlot 40) : Keeps [.st, .pnc] p (setInMap p m) := by
  refine (Keeps.tracked (s := [.st]) ?_).mono
  exact keeps_setSt_rest rfl rfl rfl

/-- The lane holds as many records and asks as before, a record at PULLING still alone, and no new UNIT_ASK. -/
structure LaneLike (a b : Lane) : Prop where
  count : laneCount b = laneCount a
  preFree : PreFree a → PreFree b
  asks : laneAsks b = laneAsks a
  unitAsk : a.unitAsk = none → b.unitAsk = none

theorem tenRecords_set {st : StripTracker} (h : TenRecords st) (l : Side) {b : Lane}
    (count : laneCount b = laneCount (st.lanes.get l)) (preFree : PreFree (st.lanes.get l) → PreFree b) :
    TenRecords { st with lanes := st.lanes.set l b } := by
  obtain ⟨sum, hz, ho⟩ := h
  cases l with
  | zero => exact ⟨by simpa only [Two.set, count, Two.get] using sum, preFree hz, ho⟩
  | one => exact ⟨by simpa only [Two.set, count, Two.get] using sum, hz, preFree ho⟩

theorem keeps_modLane {p : Part} {l : Side} {f : Lane → Lane}
    (like : LaneLike (p.st.lanes.get l) (f (p.st.lanes.get l))) : Keeps [.st, .pnc] p (modLane p l f) := by
  refine (Keeps.tracked (s := [.st]) (keeps_setSt (fun h => tenRecords_set h l like.count like.preFree) ?_ ?_)).mono
  · intro h
    rw [Two.get_set_eq_ite]
    split
    next e => rw [like.asks, e]
    next => rfl
  · intro h hn
    rw [Two.get_set_eq_ite]
    split
    next e => exact like.unitAsk (e ▸ hn)
    next => exact hn

/-- Any change of a lane. -/
theorem keeps_modLane_any (p : Part) (l : Side) (f : Lane → Lane) :
    Keeps [.st, .ten, .owes, .unitAsks, .pnc] p (modLane p l f) := by
  refine (Keeps.tracked (s := [.st, .ten, .owes, .unitAsks]) ?_).mono
  intro k hk
  have same := k.refl p
  cases k with
  | st => simp at hk
  | ten => simp at hk
  | owes => simp at hk
  | unitAsks => simp at hk
  | _ => exact same

theorem laneCount_setPosition_map (a : Lane) (x : Position) (f : Strip → Strip) :
    laneCount (setPosition a x ((atPosition a x).map f)) = laneCount a := by
  cases x <;> simp only [setPosition, atPosition, laneCount, Option.length_toList, Option.isSome_map]

theorem preFree_setPosition_map {a : Lane} (h : PreFree a) (x : Position) (f : Strip → Strip) :
    PreFree (setPosition a x ((atPosition a x).map f)) := by
  cases x with
  | pulling => exact fun hp => h (by simpa [setPosition, atPosition] using hp)
  | pre => exact fun hp => by simp [setPosition, atPosition, h hp]
  | bond => exact h
  | exit => exact h

theorem laneLike_setPosition_map (a : Lane) (x : Position) (f : Strip → Strip) :
    LaneLike a (setPosition a x ((atPosition a x).map f)) where
  count := laneCount_setPosition_map a x f
  preFree h := preFree_setPosition_map h x f
  asks := by cases x <;> rfl
  unitAsk h := by cases x <;> exact h

/-- A change of the record at a place moves no record. -/
theorem keeps_modRecord (p : Part) (f : Strip → Strip) (x : Place) : Keeps [.st, .pnc] p (modRecord p f x) := by
  cases x with
  | lane l x => exact keeps_modLane (laneLike_setPosition_map _ x f)
  | purged i => 
    have moved : Keeps [.st] p (setSt p { p.st with purged := p.st.purged.modify i f }) :=
      keeps_setSt_rest rfl rfl (List.length_modify ..)
    exact moved.mono

theorem keeps_modUnitAt (p : Part) (x : Place) (u : Nat) (f : UnitEntry → UnitEntry) :
    Keeps [.st, .pnc] p (modUnitAt p x u f) := keeps_modRecord p _ x

theorem keeps_modActive (p : Part) (h : Side) (f : UnitEntry → UnitEntry) : Keeps [.st, .pnc] p (modActive p h f) := by
  unfold modActive
  split
  next => exact .refl _ p
  next => exact keeps_modUnitAt p _ _ _

/-! ## The pulls -/

/-- A change of the Pull Record Unit that drops no record of the write list. -/
theorem keeps_setPru {p : Part} {x : PullUnit} (plans : x.plans = p.pru.plans) (classes : x.classes = p.pru.classes)
    (writes : p.pru.writeList ⊆ x.writeList) : Keeps [.pru, .pulls, .slot] p (setPru p x) := by
  intro l hl
  have same := l.refl p
  cases l with
  | pru => simp at hl
  | pulls => simp at hl
  | slot => simp at hl
  | plans => exact ⟨plans, classes⟩
  | records => exact fun hp => ⟨hp, fun k hk => hk.imp_left fun h => writes h⟩
  | _ => exact same

/-- Any change of the Pull Record Unit. -/
theorem keeps_setPru_any (p : Part) (x : PullUnit) : Keeps [.pru, .plans, .pulls, .slot, .records] p (setPru p x) := by
  intro l hl
  have same := l.refl p
  cases l with
  | pru => simp at hl
  | plans => simp at hl
  | pulls => simp at hl
  | slot => simp at hl
  | records => simp at hl
  | _ => exact same

/-- A change of the pending pulls and the counters. -/
theorem keeps_setPru_pulls {p : Part} {x : PullUnit} (plans : x.plans = p.pru.plans)
    (classes : x.classes = p.pru.classes) (writes : p.pru.writeList ⊆ x.writeList) (slot : x.slot = p.pru.slot) :
    Keeps [.pru, .pulls] p (setPru p x) := (keeps_setPru plans classes writes).mend .slot slot

/-- A change that leaves the pending pulls, the counters and the correlation slot. -/
theorem keeps_setPru_rest {p : Part} {x : PullUnit} (plans : x.plans = p.pru.plans)
    (classes : x.classes = p.pru.classes) (writes : p.pru.writeList ⊆ x.writeList) (slot : x.slot = p.pru.slot)
    (pulls : x.pulls = p.pru.pulls) (counters : x.counters = p.pru.counters) : Keeps [.pru] p (setPru p x) :=
  (keeps_setPru_pulls plans classes writes slot).mend .pulls ⟨pulls, counters⟩

theorem keeps_countPulls (p : Part) (f : PullCounters → PullCounters) : Keeps [.pru, .pulls] p (countPulls p f) :=
  keeps_setPru_pulls rfl rfl (fun _ h => h) rfl

theorem keeps_modSampling (p : Part) (l : Side) (f : Sampling → Sampling) : Keeps [.pru] p (modSampling p l f) :=
  keeps_setPru_rest rfl rfl (fun _ h => h) rfl rfl rfl

theorem keeps_modWindows (p : Part) (l : Side) (f : Vector PullWindow 8 → Vector PullWindow 8) :
    Keeps [.pru, .pnc] p (modWindows p l f) := by
  refine (Keeps.tracked (s := [.pru]) ?_).mono
  exact keeps_setPru_rest rfl rfl (fun _ h => h) rfl rfl rfl

theorem keeps_setPulls (p : Part) (es : List PendingPull) : Keeps [.pru, .pulls, .pnc] p (setPulls p es) := by
  refine (Keeps.tracked (s := [.pru, .pulls]) ?_).mono
  exact keeps_setPru_pulls rfl rfl (fun _ h => h) rfl

/-- The correlation slot is changed. -/
theorem keeps_setSlot (p : Part) (s : CorrSlot) : Keeps [.pru, .slot] p (setPru p { p.pru with slot := s }) := by
  have any : Keeps [.pru, .pulls, .slot] p (setPru p { p.pru with slot := s }) := keeps_setPru rfl rfl fun _ h => h
  exact any.mend .pulls ⟨rfl, rfl⟩

/-! ## Records handed in (R63, R64, R110) -/

/-- A bond record is numbered and queued while the store is in service. -/
theorem keeps_writeBondRecord {p : Part} (hs : inService p = true) (c : Context) (j : Judgement) (slot : Side) :
    Keeps [.rp, .store, .bm] p (writeBondRecord p c j slot) := by
  have serves : p.store.state.serves = true := by rwa [← inService_eq_serves]
  let r : Request := { kind := .bondWrite c.head slot, addr := bondAddress p.store.config p.store.wb, len := 24,
                       data := bondRecordBytes p.store.wb c j }
  let numbered := setStore p { p.store with wb := p.store.wb + 1 }
  let queued := enqueue numbered r
  let taken := modChannel queued c.head fun ch => { ch with slots := ch.slots.set slot (some p.store.wb) }
  have hs' : inService numbered = true := hs
  have number : Growth p.store numbered.store p.bm.channels numbered.bm.channels [] := growth_wb serves _ _
  have queue : Growth numbered.store queued.store numbered.bm.channels numbered.bm.channels [r] :=
    growth_enqueue hs' r
  have both : Keeps [.store] p queued := (keeps_setStore number).andThen (keeps_enqueue hs' r)
  have whole : Keeps [.store, .bm, .growth] p taken := by
    have any : Keeps [.bm, .growth] queued taken := (keeps_modChannel_any queued _ _).mend .lookups fun g i x hx => by
      refine ⟨x, ?_, rfl⟩
      simp only [contextOf, taken, modChannel_channels, Two.get_set_eq_ite] at hx ⊢
      split at hx
      next e => exact e ▸ hx
      next => exact hx
    exact both.andThen any
  have grown : Growth p.store taken.store p.bm.channels taken.bm.channels [r] :=
    { number.trans queue with
      slots := fun g x => by
        by_cases e : g = c.head ∧ x = slot
        · exact .inr ⟨r, List.mem_singleton_self r, by rw [e.1, e.2]⟩
        · refine .inl ?_
          have hch : queued.bm.channels = p.bm.channels := by
            rw [show queued = setStore numbered _ from enqueue_eq_setStore numbered r]; rfl
          simp only [writeSlot, taken, modChannel_channels, Two.get_set_eq_ite, hch]
          split
          next hg =>
            rw [Two.get_set_eq_ite, if_neg fun hx => e ⟨hg, hx⟩, hg]
          next => rfl }
  have done : Keeps [.store, .bm] p taken := whole.mend .growth ⟨_, grown⟩
  unfold writeBondRecord
  dsimp only
  split
  next => exact done.andThen (keeps_offerBondWrap taken _ _)
  next => exact done.mono

/-- The request that `writePullRecord` queues. -/
def pullWriteRequest (p : Part) (r : PullRecord) : Request where
  kind := .pullWrite
  addr := pullAddress p.store.config p.store.wp
  len := 32
  data := pullRecordBytes p.store.wp r

/-- A pull record is numbered and queued while the store is in service. -/
theorem keeps_writePullRecord {p : Part} (hs : inService p = true) (r : PullRecord) :
    Keeps [.rp, .store] p (writePullRecord p r) := by
  have serves : p.store.state.serves = true := by rwa [← inService_eq_serves]
  let numbered := setStore p { p.store with wp := p.store.wp + 1 }
  have number : Keeps [.store] p numbered := keeps_setStore (growth_wp serves _ _)
  have hs' : inService numbered = true := hs
  have queued : Keeps [.store] p (enqueue numbered (pullWriteRequest p r)) := number.andThen (keeps_enqueue hs' _)
  unfold writePullRecord
  dsimp only
  split
  next => exact ((queued.trans (keeps_offerPullWrap _ _ _)).trans (keeps_offerPull _ _ _)).mono
  next => exact queued.andThen (keeps_offerPull _ _ _)

theorem writePullRecord_queue (p : Part) (r : PullRecord) :
    (writePullRecord p r).store.queue = p.store.queue ++ [pullWriteRequest p r] := by
  have queued : ∀ q : Part, ∀ x, (enqueue q x).store.queue = q.store.queue ++ [x] := fun q x => by
    unfold enqueue
    dsimp only
    split <;> rfl
  unfold writePullRecord
  dsimp only
  split <;> simp [queued, pullWriteRequest]

/-- The oldest record of the write list is handed in: it leaves the list and stands in the store queue. -/
theorem keeps_handIn {p : Part} (hs : inService p = true) {r : PullRecord} {rest : List PullRecord}
    (h : p.pru.writeList = r :: rest) :
    Keeps [.rp, .store, .pru] p (writePullRecord (setPru p { p.pru with writeList := rest }) r) := by
  let taken := setPru p { p.pru with writeList := rest }
  have hs' : inService taken = true := hs
  have take : Keeps [.pru, .records] p taken := by
    have any : Keeps [.pru, .plans, .pulls, .slot, .records] p taken := keeps_setPru_any _ _
    have any' : Keeps [.pru, .pulls, .slot, .records] p taken := any.mend .plans ⟨rfl, rfl⟩
    have any'' : Keeps [.pru, .slot, .records] p taken := any'.mend .pulls ⟨rfl, rfl⟩
    exact any''.mend .slot rfl
  have written := keeps_writePullRecord hs' r
  have both : Keeps [.rp, .store, .pru, .records] p (writePullRecord taken r) := take.andThen written
  refine both.mend .records fun _ => ⟨(written .records (by simp) hs').1, ?_⟩
  intro k hk
  rcases hk with hk | ⟨w, hw, hkind⟩
  · rw [h] at hk
    rcases List.mem_cons.1 hk with rfl | hk
    · exact .inr ⟨pullWriteRequest taken k, writePullRecord_queue taken k ▸ List.mem_append_right _ (.head _), rfl, _,
        rfl⟩
    · exact (written .records (by simp) hs').2 k (.inl hk)
  · exact (written .records (by simp) hs').2 k (.inr ⟨w, hw, hkind⟩)

theorem keeps_handInWrites : ∀ (n : Nat) (p : Part), Keeps [.rp, .store, .pru] p (handInWrites n p)
  | 0, p => .refl _ p
  | n + 1, p => by
    unfold handInWrites
    split
    next => exact .refl _ p
    next r rest h =>
      split
      next hc =>
        rw [Bool.and_eq_true] at hc
        exact (keeps_handIn hc.1 h).andThen (keeps_handInWrites n _)
      next => exact .refl _ p

theorem keeps_sendUnwritten (p : Part) (r : PullRecord) : Keeps [.rp, .pru, .pulls] p (sendUnwritten p r) :=
  (keeps_countPulls p _).andThen (keeps_offerPull _ none r)

theorem keeps_giveRecord (p : Part) (r : PullRecord) : Keeps [.rp, .store, .pru, .pulls] p (giveRecord p r) := by
  refine .ite (fun _ => ?_) fun _ => (keeps_sendUnwritten p r).mono
  have joined : Keeps [.pru] p (setPru p { p.pru with writeList := p.pru.writeList ++ [r] }) :=
    keeps_setPru_rest rfl rfl (List.subset_append_left ..) rfl rfl rfl
  exact joined.andThen (keeps_handInWrites 2 _)

/-- A composed record is on its way to the store while the store is in service. -/
theorem recorded_giveRecord {p : Part} (hs : inService p = true) (r : PullRecord) : Recorded (giveRecord p r) r := by
  unfold giveRecord
  rw [if_pos hs]
  let q := setPru p { p.pru with writeList := p.pru.writeList ++ [r] }
  have joined : Recorded q r := .inl (List.mem_append_right _ (.head _))
  have hs' : inService q = true := hs
  exact (keeps_handInWrites 2 q .records (by simp) hs').2 r joined

/-- Every record leaves the write list unwritten (R111). -/
theorem keeps_flushWrites (p : Part) : Keeps [.rp, .pru, .pulls, .records] p (flushWrites p) := by
  have any : Keeps [.pru, .plans, .pulls, .slot, .records] p (setPru p { p.pru with writeList := [] }) :=
    keeps_setPru_any _ _
  have any' : Keeps [.pru, .pulls, .slot, .records] p (setPru p { p.pru with writeList := [] }) :=
    any.mend .plans ⟨rfl, rfl⟩
  have emptied : Keeps [.pru, .pulls, .records] p (setPru p { p.pru with writeList := [] }) := any'.mend .slot rfl
  exact emptied.andThen (Keeps.foldl keeps_sendUnwritten p.pru.writeList _)

end Sys2Proof.Machine
end

section
/-! PROOFS. Which laws the grants, moves and sampling of strips, and the expiries and appends of pulls keep. -/

namespace Sys2Proof.Machine

-- One proof after another: every thread of a compile reserves its own stack.
set_option Elab.async false

/-! ## Replies to asks (R165) -/

theorem giveReply_rp_congr {p q : Part} (h : q.rp = p.rp) (k : Byte) (a : Ask) (pl : List Byte) :
    (giveReply q k a pl).rp = (giveReply p k a pl).rp := by
  simp only [giveReply, queueParcel, ownStation, setRp_rp, h]

/-- A reply and the end of the request that it answers, in whichever order the model does them. -/
theorem owes_settle {d : Nat} {p q : Part} (h : Owes d p) {k : Byte} (hk : k ≠ 0x12) (a : Ask) (pl : List Byte)
    (rp : q.rp = (giveReply p k a pl).rp) (held : heldRequests q + 1 = heldRequests p) : Owes d q := by
  obtain ⟨hr, ht, hn⟩ := h
  have total : outboundTotal q = outboundTotal (giveReply p k a pl) := by simp only [outboundTotal, rp]
  have notices : noticeCount q = noticeCount (giveReply p k a pl) := by simp only [noticeCount, rp]
  refine ⟨?_, ?_, ?_⟩
  · rw [rp, giveReply_reservations]
    omega
  · rw [total, outboundTotal_giveReply (by omega)]
    exact ht
  · rw [notices, noticeCount_giveReply p hk]
    exact hn

theorem heldRequests_modLane (p : Part) (l : Side) (f : Lane → Lane) :
    heldRequests (modLane p l f) + laneAsks (p.st.lanes.get l) =
      heldRequests p + laneAsks (f (p.st.lanes.get l)) := by
  cases l <;> simp only [heldRequests, modLane_st, modLane_cu, Two.set, Two.get] <;> omega

theorem heldRequests_modLane_less {p : Part} {l : Side} {f : Lane → Lane}
    (asks : laneAsks (f (p.st.lanes.get l)) + 1 = laneAsks (p.st.lanes.get l)) :
    heldRequests (modLane p l f) + 1 = heldRequests p := by
  have held := heldRequests_modLane p l f
  omega

/-- The lane is as before but for one ask that it held. -/
structure AskLess (a b : Lane) : Prop where
  count : laneCount b = laneCount a
  preFree : PreFree a → PreFree b
  asks : laneAsks b + 1 = laneAsks a
  unitAsk : a.unitAsk = none → b.unitAsk = none

theorem unitAsks_modLane {p : Part} {l : Side} {f : Lane → Lane}
    (h : (p.st.lanes.get l).unitAsk = none → (f (p.st.lanes.get l)).unitAsk = none) :
    Law.unitAsks.Holds p (modLane p l f) := by
  intro g hg
  rw [modLane_st, Two.get_set_eq_ite]
  split
  next e => exact h (e ▸ hg)
  next => exact hg

/-- An ask leaves its lane and is answered. -/
theorem keeps_answerLane {p : Part} {l : Side} {f : Lane → Lane}
    (less : AskLess (p.st.lanes.get l) (f (p.st.lanes.get l))) {k : Byte} (hk : k ≠ 0x12) (a : Ask)
    (pl : List Byte) : Keeps [.rp, .st, .pnc] p (giveReply (modLane p l f) k a pl) := by
  have any : Keeps [.rp, .st, .ten, .owes, .unitAsks, .pnc] p (giveReply (modLane p l f) k a pl) :=
    (keeps_modLane_any p l f).andThen (keeps_giveReply _ k a pl)
  have ten : Keeps [.rp, .st, .owes, .unitAsks, .pnc] p (giveReply (modLane p l f) k a pl) :=
    any.mend .ten fun h => tenRecords_set h l less.count less.preFree
  have asks : Keeps [.rp, .st, .owes, .pnc] p (giveReply (modLane p l f) k a pl) :=
    ten.mend .unitAsks (unitAsks_modLane less.unitAsk)
  exact asks.mend .owes fun d h => owes_settle h hk a pl rfl (heldRequests_modLane_less less.asks)

/-! ## Sampling and unit asks (R84, R99) -/

theorem keeps_considerSampling (p : Part) (l : Side) : Keeps [.st, .pru, .pnc] p (considerSampling p l) := by
  unfold considerSampling
  dsimp only
  split
  next => exact (keeps_modSampling p l _).andThen (keeps_modLane (laneLike_setPosition_map _ .bond _))
  next => exact (keeps_modSampling p l _).mono

/-- A reply to a UNIT_ASK, as the examination gives it, pays for one request. -/
theorem keeps_decideUnit {p q : Part} {h : Side} {a : Ask} (hq : decideUnit p h a = some q) :
    Keeps [.rp, .st, .owes, .pnc] p q := by
  unfold decideUnit at hq
  dsimp only at hq
  split at hq
  next => cases hq
  next =>
    split at hq
    next => cases hq
    next =>
      split at hq
      next =>
        cases hq
        exact (keeps_giveReply p _ a _).mono
      next =>
        cases hq
        exact (keeps_modUnitAt p _ _ _).andThen (keeps_giveReply _ _ a _)

/-- What the examination of a UNIT_ASK leaves: the asks of the lanes, and a reply queued in the place of one
reservation. -/
theorem decideUnit_reply {p q : Part} {h : Side} {a : Ask} (hq : decideUnit p h a = some q) :
    ∃ k pl, k ≠ 0x12 ∧ q.rp = (giveReply p k a pl).rp ∧
      ∀ g, (q.st.lanes.get g).feedAsk = (p.st.lanes.get g).feedAsk ∧
        (q.st.lanes.get g).moveAsk = (p.st.lanes.get g).moveAsk ∧
        (q.st.lanes.get g).unitAsk = (p.st.lanes.get g).unitAsk := by
  unfold decideUnit at hq
  dsimp only at hq
  split at hq
  next => cases hq
  next =>
    split at hq
    next => cases hq
    next =>
      split at hq
      next =>
        cases hq
        exact ⟨0x33, _, by decide, rfl, fun g => ⟨rfl, rfl, rfl⟩⟩
      next =>
        cases hq
        refine ⟨0x32, _, by decide, rfl, fun g => ?_⟩
        simp only [modUnitAt, modRecord, giveReply_st, modLane_st, Two.get_set_eq_ite]
        split
        next e => subst e; exact ⟨rfl, rfl, rfl⟩
        next => exact ⟨rfl, rfl, rfl⟩

theorem decideUnit_cu {p q : Part} {h : Side} {a : Ask} (hq : decideUnit p h a = some q) : q.cu = p.cu :=
  keeps_decideUnit hq .cu (by simp)

theorem keeps_setUnitAsk_none (p : Part) (h : Side) :
    Keeps [.st, .owes, .pnc] p (setUnitAsk p h none) := by
  have any : Keeps [.st, .ten, .owes, .unitAsks, .pnc] p (setUnitAsk p h none) := keeps_modLane_any p h _
  have ten : Keeps [.st, .owes, .unitAsks, .pnc] p (setUnitAsk p h none) :=
    any.mend .ten fun ht => tenRecords_set ht h rfl id
  exact ten.mend .unitAsks (unitAsks_modLane fun _ => rfl)

theorem keeps_examineUnitAsk (p : Part) (h : Side) : Keeps [.rp, .st, .pnc] p (examineUnitAsk p h) := by
  unfold examineUnitAsk
  split
  next => exact .refl _ p
  next a ha =>
    split
    next => exact .refl _ p
    next q hq =>
      have any : Keeps [.rp, .st, .owes, .pnc] p (setUnitAsk q h none) :=
        (keeps_decideUnit hq).andThen (keeps_setUnitAsk_none q h)
      refine any.mend .owes fun d ho => ?_
      obtain ⟨k, pl, hk, hrp, hasks⟩ := decideUnit_reply hq
      refine owes_settle ho hk a pl hrp ?_
      have asks : ∀ g, laneAsks (q.st.lanes.get g) = laneAsks (p.st.lanes.get g) := fun g => by
        obtain ⟨hf, hm, hu⟩ := hasks g
        simp only [laneAsks, hf, hm, hu]
      have hz : laneAsks q.st.lanes.zero = laneAsks p.st.lanes.zero := asks .zero
      have hone : laneAsks q.st.lanes.one = laneAsks p.st.lanes.one := asks .one
      have same : heldRequests q = heldRequests p := by
        simp only [heldRequests, hz, hone, decideUnit_cu hq]
      rw [← same]
      exact heldRequests_modLane_less (by simp [laneAsks, (hasks h).2.2, ha])

/-! ## The arbiter (R80, R81) -/

/-- The laws that a grant or a move of strips breaks. -/
def movesBroken : List Law := [.rp, .st, .pru, .ahu, .pnc]

/-- A lane in arbitration has nothing at PULLING and nothing at PRE (R78). -/
theorem inArbitration_empty {p : Part} {l : Side} (h : inArbitration p l = true) :
    (p.st.lanes.get l).pulling = none ∧ (p.st.lanes.get l).pre = none := by
  simp only [inArbitration, Bool.and_eq_true, Option.isNone_iff_eq_none] at h
  exact ⟨h.1.2, h.2⟩

theorem inArbitration_of_chosenLane {p : Part} {l : Side} (h : chosenLane p = some l) : inArbitration p l = true := by
  unfold chosenLane at h
  split at h
  next hz ho =>
    cases h
    cases p.st.lastGranted <;> assumption
  next hz ho => cases h; exact hz
  next hz ho => cases h; exact ho
  next => cases h

theorem keeps_feedGrant {p : Part} {l : Side} {f : FeedAsk} (hl : inArbitration p l = true) (hpool : p.st.pool ≠ 0)
    (hf : (p.st.lanes.get l).feedAsk = some f) (s : Fin 40) : Keeps [.rp, .st, .pnc] p (feedGrant p l f.ask s) := by
  obtain ⟨hpulling, hpre⟩ := inArbitration_empty hl
  let mapped := setInMap p (vset p.st.inMap s .pulled)
  let taken := setSt mapped { mapped.st with
    pool := p.st.pool - 1, nextStrip := p.st.nextStrip + 1, elevator := .busy l p.st.nextStrip, lastGranted := l }
  let placed := modLane taken l fun lane =>
    { lane with pulling := some (freshStrip p.st.nextStrip s.val l), feedAsk := none }
  let replied := giveReply placed 0x30 f.ask (oneByte s.val :: le 2 p.st.nextStrip.toNat)
  have take : Keeps [.st, .ten] mapped taken := by
    intro k hk
    have same := k.refl mapped
    cases k with
    | st => simp at hk
    | ten => simp at hk
    | _ => exact same
  have any : Keeps [.rp, .st, .ten, .owes, .unitAsks, .pnc] p replied :=
    (((keeps_setInMap p _).trans take).trans ((keeps_modLane_any taken l _).trans (keeps_giveReply placed _ _ _))).mono
  have ten : Keeps [.rp, .st, .owes, .unitAsks, .pnc] p replied := any.mend .ten fun ⟨sum, hz, ho⟩ => by
    cases l with
    | zero =>
      refine ⟨?_, fun _ => hpre, ho⟩
      simp [replied, placed, taken, mapped, Two.set, laneCount, Two.get] at sum hpulling hpre ⊢
      simp [hpulling, hpre] at sum ⊢
      omega
    | one =>
      refine ⟨?_, hz, fun _ => hpre⟩
      simp [replied, placed, taken, mapped, Two.set, laneCount, Two.get] at sum hpulling hpre ⊢
      simp [hpulling, hpre] at sum ⊢
      omega
  have asks : Keeps [.rp, .st, .owes, .pnc] p replied := ten.mend .unitAsks fun g hg => by
    simp only [replied, placed, giveReply_st, modLane_st, Two.get_set_eq_ite]
    split
    next e => exact e ▸ hg
    next => exact hg
  have paid : Keeps [.rp, .st, .pnc] p replied := asks.mend .owes fun d h => by
    have rp : placed.rp = p.rp := by simp only [placed, taken, mapped, modLane_rp, setSt_rp, setInMap_rp]
    refine owes_settle h (k := 0x30) (by decide) f.ask _ (giveReply_rp_congr rp _ _ _) ?_
    have hf' : (taken.st.lanes.get l).feedAsk = some f := hf
    have less : heldRequests placed + 1 = heldRequests taken :=
      heldRequests_modLane_less (by simp [laneAsks, hf']; omega)
    exact less
  exact paid.andThen (keeps_offerStrip replied _)

theorem keeps_starve {p : Part} {l : Side} {f : FeedAsk} (hf : (p.st.lanes.get l).feedAsk = some f) :
    Keeps [.rp, .st, .ahu, .pnc] p (starve p l f) := by
  unfold starve
  split
  next => exact .refl _ p
  next =>
    have marked : Keeps [.st, .pnc] p
        (modLane p l fun lane => { lane with feedAsk := some { f with starved := true } }) :=
      keeps_modLane ⟨rfl, id, by simp [laneAsks, hf], id⟩
    exact ((marked.trans (keeps_countStrips _ _)).trans (keeps_raiseAlarm_quiet rfl _ _ _)).mono

theorem keeps_denyEmpty {p : Part} {l : Side} {f : FeedAsk} (hf : (p.st.lanes.get l).feedAsk = some f) :
    Keeps [.rp, .st, .ahu, .pnc] p (denyEmpty p l f) := by
  have answered : Keeps [.rp, .st, .pnc] p
      (denyAsk (modLane p l fun lane => { lane with feedAsk := none }) 0x31 f.ask .empty) :=
    keeps_answerLane ⟨rfl, id, by simp [laneAsks, hf]; omega, id⟩ (by decide) _ _
  exact answered.andThen (keeps_raiseAlarm_quiet rfl _ _ _)

theorem keeps_arbiterRun : ∀ (n : Nat) (p : Part), Keeps [.rp, .st, .ahu, .pnc] p (arbiterRun n p)
  | 0, p => .refl _ p
  | n + 1, p => by
    unfold arbiterRun
    split
    next => exact .refl _ p
    next =>
      split
      next => exact .refl _ p
      next l hl =>
        split
        next => exact .refl _ p
        next f hf =>
          split
          next => exact keeps_starve hf
          next hpool =>
            split
            next => exact (keeps_denyEmpty hf).andThen (keeps_arbiterRun n _)
            next s _ => exact (keeps_feedGrant (inArbitration_of_chosenLane hl) hpool hf s).mono

theorem keeps_runArbiter (p : Part) : Keeps [.rp, .st, .ahu, .pnc] p (runArbiter p) := keeps_arbiterRun 3 p

theorem keeps_mayEnter (p : Part) (l : Side) : Keeps [.rp, .st, .ahu, .pnc] p (mayEnter p l) :=
  .ite (fun _ => keeps_runArbiter p) fun _ => .refl _ p

/-! ## Moves (R88, R89) -/

theorem mayMove_exit {a : Lane} (h : mayMove a = true) : a.exit = none := by
  simp only [mayMove, Bool.and_eq_true, Option.isNone_iff_eq_none] at h
  exact h.1

theorem laneLike_shiftLane {a : Lane} (h : a.exit = none) : LaneLike a (shiftLane a) where
  count := by simp only [laneCount, shiftLane, h, Option.toList_none, List.length_nil]; omega
  preFree _ _ := rfl
  asks := rfl
  unitAsk := id

theorem keeps_moveGrant {p : Part} {l : Side} {a : Ask} (ha : (p.st.lanes.get l).moveAsk = some a)
    (hm : mayMove (p.st.lanes.get l) = true) : Keeps movesBroken p (moveGrant p l a) := by
  let answered := giveReply (modLane p l fun x => { x with moveAsk := none }) 0x34 a []
  have answer : Keeps [.rp, .st, .pnc] p answered :=
    keeps_answerLane ⟨rfl, id, by simp [laneAsks, ha]; omega, id⟩ (by decide) _ _
  have exit : (answered.st.lanes.get l).exit = none := by
    simp [answered, mayMove_exit hm]
  have shifted := answer.trans (keeps_modLane (laneLike_shiftLane exit))
  unfold moveGrant
  dsimp only
  split
  next => exact answer.mono
  next =>
    split
    next =>
      exact ((shifted.trans (keeps_offerStrip _ _)).trans (((keeps_mayEnter _ l).trans
        (keeps_considerSampling _ l)).trans (keeps_examineUnitAsk _ l))).mono
    next => exact (shifted.trans (keeps_offerStrip _ _)).mono

theorem keeps_examineMove (p : Part) (l : Side) : Keeps movesBroken p (examineMove p l) := by
  unfold examineMove
  split
  next => exact .refl _ p
  next a ha => exact .ite (fun hm => keeps_moveGrant ha hm) fun _ => .refl _ p

/-! ## Pending pulls (R101 to R105) -/

/-- The laws that an expiry or an append of pulls breaks. -/
def pullsBroken : List Law := [.rp, .store, .map, .pru, .pulls, .ahu, .pnc]

theorem keeps_giveExpired (p : Part) (r : PullRecord) : Keeps [.rp, .store, .pru, .pulls] p (giveExpired p r) :=
  .ite (fun _ => (keeps_sendUnwritten p r).mono) fun _ => keeps_giveRecord p r

theorem keeps_expirePull (p : Part) (e : PendingPull) (evicted : Bool) :
    Keeps pullsBroken p (expirePull p e evicted) :=
  ((((keeps_setPulls p _).trans (keeps_withdrawClass _ _)).trans (keeps_countPulls _ _)).trans
    ((keeps_giveExpired _ _).trans (keeps_raiseAlarm_quiet rfl _ _ _))).mono

theorem keeps_evictFor (p : Part) (strip : BitVec 16) (unit wire : Nat) :
    Keeps pullsBroken p (evictFor p strip unit wire) := by
  have full : ∀ q : Part, Keeps pullsBroken q (if q.pru.pulls.length < pendingPlaces then q else
      match q.pru.pulls with
      | [] => q
      | e :: _ => expirePull q e true) := fun q => by
    split
    next => exact .refl _ q
    next =>
      split
      next => exact .refl _ q
      next e _ _ => exact keeps_expirePull q e true
  unfold evictFor
  dsimp only
  split
  next => exact full p
  next e _ =>
    exact (keeps_expirePull p e true).andThen (full (expirePull p e true)) (fun _ h => h) fun _ h => h

/-- A lookup of a pending pull settles its class or removes it, and leaves the correlation slot. -/
theorem keeps_settleClass_listed {p : Part} {start : Nat} (h : p.pru.pulls.any (resolvingBy start) = true)
    (r : Resolution) : Keeps [.pru, .pulls, .pnc] p (settleClass p start r) := by
  unfold settleClass
  rw [if_pos h]
  split
  next c _ =>
    have settled : Keeps [.pru, .pulls] p (setPru p { p.pru with
        pulls := p.pru.pulls.map fun e =>
          if resolvingBy start e then { e with pullClass := .settled (some c) } else e }) :=
      keeps_setPru_pulls rfl rfl (fun _ h => h) rfl
    exact settled.mono
  next => exact (keeps_setPulls p _).andThen (keeps_countPulls _ _)

theorem keeps_settleClass (p : Part) (start : Nat) (r : Resolution) :
    Keeps [.pru, .pulls, .slot, .pnc] p (settleClass p start r) := by
  by_cases h : p.pru.pulls.any (resolvingBy start) = true
  · exact (keeps_settleClass_listed h r).mono
  · unfold settleClass
    rw [if_neg h]
    exact (keeps_setSlot p _).mono

theorem startLookup_pru (p : Part) (key : MapKey) (q : Party) : (startLookup p key q).1.pru = p.pru :=
  keeps_startLookup p key q .pru (by simp)

theorem keeps_appendPull (strip : BitVec 16) (l : Side) (p : Part) (x : SelEntry) :
    Keeps pullsBroken p (appendPull strip l p x) := by
  have evicted := keeps_evictFor p strip x.unit x.wire
  unfold appendPull
  dsimp only
  split
  next => exact evicted.andThen (keeps_setPulls _ _)
  next =>
    have looked := fun es key => (evicted.trans (keeps_setPulls _ es)).trans (keeps_startLookup_pull _ key)
    split
    next =>
      refine ((looked _ _).trans (keeps_settleClass_listed ?_ _)).mono
      rw [startLookup_pru, setPulls_pru]
      simp [resolvingBy]
    next => exact (looked _ _).mono
    next => exact (looked _ _).mono

theorem keeps_pullsOfUnit (p : Part) (strip : BitVec 16) (l : Side) (final : UnitStatus) (es : List SelEntry) :
    Keeps pullsBroken p (pullsOfUnit p strip l final es) :=
  .ite (fun _ => (keeps_countPulls p _).mono) fun _ => Keeps.foldl (keeps_appendPull strip l) es p

theorem keeps_expireDue : ∀ (n : Nat) (p : Part), Keeps pullsBroken p (expireDue n p)
  | 0, p => .refl _ p
  | n + 1, p => by
    unfold expireDue
    split
    next => exact .refl _ p
    next q hq =>
      unfold expireOne at hq
      split at hq
      next => cases hq
      next e _ =>
        split at hq
        next => cases hq
        next =>
          cases hq
          exact (keeps_expirePull p e false).andThen (keeps_expireDue n _)

end Sys2Proof.Machine
end

section
/-! PROOFS. Which laws the final status of a unit, the issue of a verdict, the correlation of pulls and the
completion of fetches keep. -/

namespace Sys2Proof.Machine

-- One proof after another: every thread of a compile reserves its own stack.
set_option Elab.async false

/-! ## Final status and release of units (R23, R87) -/

/-- The laws that a unit's final status breaks. -/
def unitBroken : List Law := [.rp, .store, .map, .st, .pru, .pulls, .ahu, .pnc]

theorem keeps_closeUnit (p : Part) (x : Place) (i : Nat) : Keeps unitBroken p (closeUnit p x i) := by
  unfold closeUnit
  split
  next => exact .refl _ p
  next =>
    split
    next => exact .refl _ p
    next =>
      split
      next =>
        have closed := fun f final es s l =>
          (keeps_modRecord p f x).trans (keeps_pullsOfUnit (modRecord p f x) s l final es)
        cases x with
        | lane l _ => exact ((closed _ _ _ _ _).trans (keeps_examineMove _ l)).mono
        | purged _ => exact (closed _ _ _ _ _).mono
      next => exact .refl _ p

theorem keeps_endUnit (p : Part) (h : Side) (u : UnitRef) (wires : Nat) : Keeps unitBroken p (endUnit p h u wires) :=
  (keeps_modUnitAt p _ _ _).andThen (keeps_closeUnit _ _ _)

theorem keeps_abandonUnit (p : Part) (h : Side) : Keeps unitBroken p (abandonUnit p h) := by
  unfold abandonUnit
  split
  next => exact .refl _ p
  next u _ => exact (keeps_countStrips p _).andThen (keeps_endUnit _ h u 0)

theorem keeps_unitEnd (p : Part) (h : Side) (pl : List Byte) : Keeps unitBroken p (unitEnd p h pl) :=
  .ite (fun _ => keeps_endUnit p h _ _) fun _ => (keeps_countStrips p _).mono

/-- The laws that the issue of a verdict without its alarm breaks. -/
def releaseBroken : List Law := .bm :: unitBroken

theorem keeps_releaseUnit (p : Part) (h : Side) (u : Option UnitRef) (m : UnitMark) (passed : Option Bool) :
    Keeps releaseBroken p (releaseUnit p h u m passed) := by
  unfold releaseUnit
  split
  next u x _ =>
    have released := fun f g => ((keeps_modUnitAt p x u.unit f).trans (keeps_modRecord _ g x)).trans
      (keeps_closeUnit (modRecord (modUnitAt p x u.unit f) g x) x u.unit)
    dsimp only
    split
    next => exact ((released _ _).trans (keeps_examineMove _ _)).mono
    next => exact (released _ _).mono
    next => exact (released _ _).mono
  next => exact (keeps_countChannel p h _).mono

/-! ## Issue (R19 to R25) -/

theorem keeps_setSelectionNumber (p : Part) (c : Context) (k : Option (BitVec 32)) :
    Keeps [.st, .pnc] p (setSelectionNumber p c k) := by
  unfold setSelectionNumber
  split
  next => exact .refl _ p
  next =>
    split
    next => exact .refl _ p
    next => exact keeps_modRecord p _ _

theorem keeps_prefetch (p : Part) (c : Context) : Keeps [.store, .map] p (prefetch p c) := by
  unfold prefetch
  dsimp only
  split
  next h => exact (keeps_startFetch h.2.1 _ []).andThen (keeps_countMap _ _)
  next => exact .refl _ p

/-- The laws that the issue of a verdict breaks. -/
def issueBroken : List Law := .heads :: .feeders :: .bondAlarms :: releaseBroken

theorem keeps_failAction (p : Part) (c : Context) (j : Judgement) : Keeps raiseBroken p (failAction p c j) :=
  .ite (fun _ => .refl _ p) fun _ => keeps_raiseAlarm p _ _ _

theorem keeps_issueVerdict {p : Part} {slot : Option Side} (hs : slot.isSome = true → inService p = true) (h : Side)
    (i : Fin 4) (c : Context) (j : Judgement) : Keeps issueBroken p (issueVerdict p h i c j slot) := by
  have after : ∀ (q : Part) k, Keeps issueBroken q (freeContext (recordIssue (prefetch (setSelectionNumber
      (releaseUnit (failAction (offerVerdict q c j k) c j) h c.unitRef (unitMarkOf j) (some (j.verdict == .pass)))
        c k) c) h j) h i) := fun q k =>
    ((((keeps_offerVerdict q c j k).trans (keeps_failAction _ c j)).trans
      ((keeps_releaseUnit _ h _ _ _).trans (keeps_setSelectionNumber _ c k))).trans
        (((keeps_prefetch _ c).trans (keeps_recordIssue _ h j)).trans (keeps_freeContext _ h i))).mono
  cases slot with
  | none => exact after p _
  | some x => exact (keeps_writeBondRecord (hs rfl) c j x).andThen (after _ _) (by decide) fun _ h => h

theorem keeps_issueOne {p q : Part} {h : Side} (hq : issueOne p h = some q) : Keeps issueBroken p q := by
  unfold issueOne at hq
  dsimp only at hq
  split at hq
  next => cases hq
  next =>
    split at hq
    next => cases hq
    next =>
      split at hq
      next hs =>
        split at hq
        next => cases hq
        next =>
          cases hq
          exact keeps_issueVerdict (fun _ => hs) h _ _ _
      next =>
        cases hq
        exact keeps_issueVerdict (fun h => by cases h) h _ _ _

theorem keeps_issueUpTo : ∀ (n : Nat) (p : Part) (h : Side), Keeps issueBroken p (issueUpTo n p h)
  | 0, p, _ => .refl _ p
  | n + 1, p, h => by
    unfold issueUpTo
    split
    next => exact .refl _ p
    next q hq => exact (keeps_issueOne hq).andThen (keeps_issueUpTo n q h)

theorem keeps_examineIssue (p : Part) (h : Side) : Keeps issueBroken p (examineIssue p h) := keeps_issueUpTo 4 p h

theorem keeps_examineBoth (p : Part) : Keeps issueBroken p (examineBoth p) :=
  (keeps_examineIssue p .zero).andThen (keeps_examineIssue _ .one)

theorem judgeContext_lookup (g : Vector BondGroup 64) (c : Context) : (judgeContext g c).lookup = c.lookup := by
  unfold judgeContext
  split <;> rfl

theorem keeps_judgeAndIssue (p : Part) (h : Side) (i : Fin 4) : Keeps issueBroken p (judgeAndIssue p h i) :=
  (keeps_modContext (judgeContext_lookup p.bm.groups)).andThen (keeps_examineIssue _ h)

/-! ## Correlation and composition (R107 to R110) -/

/-- The laws that the Pull Record Unit breaks as it goes on. -/
def pumpBroken : List Law := [.rp, .store, .pru, .pulls, .slot, .ahu, .heads, .feeders, .bondAlarms, .pnc]

theorem keeps_applyOutcome (p : Part) (r : PullRecord) (force : Nat) (c : Fin 8) (fail : Bool) :
    Keeps (.pru :: raiseBroken) p (applyOutcome p r force c fail) := by
  have window := fun f g => (keeps_modSampling p r.lane f).trans (keeps_modWindows (modSampling p r.lane f) r.lane g)
  unfold applyOutcome
  dsimp only
  split
  next =>
    exact (((window _ _).trans (keeps_modWindows _ r.lane _)).trans ((keeps_modSampling _ r.lane _).trans
      (keeps_raiseAlarm _ _ _ _))).mono
  next => exact (window _ _).mono

theorem keeps_composeResult (p : Part) (e : PendingPull) (r : PullResult) (c : Option (Fin 8)) (b s : DataPart) :
    Keeps pumpBroken p (composeResult p e r c b s) := by
  have emptied := keeps_setSlot p .empty
  unfold composeResult
  dsimp only
  split
  next => exact ((emptied.trans (keeps_applyOutcome _ _ _ _ _)).trans (keeps_giveRecord _ _)).mono
  next => exact ((emptied.trans (keeps_applyOutcome _ _ _ _ _)).trans (keeps_giveRecord _ _)).mono
  all_goals exact (emptied.trans (keeps_giveRecord _ _)).mono

theorem keeps_handInLookback (p : Part) (kind : ReqKind) (region : Region) (k : BitVec 32) :
    Keeps [.store] p (handInLookback p kind region k).1 := by
  unfold handInLookback
  split
  next => exact keeps_countFaulted p
  next hs =>
    split
    next => exact keeps_setStore (growth_counters rfl le_rfl)
    next => exact keeps_enqueue (by simpa using hs) _

theorem keeps_handInPart (p : Part) (ph : Phase) (k : Option (BitVec 32)) : Keeps [.store] p (handInPart p ph k).1 := by
  cases k with
  | none => exact .refl _ p
  | some k => exact keeps_handInLookback p _ _ k

theorem keeps_correlateStep {p q : Part} (hq : correlateStep p = some q) : Keeps pumpBroken p q := by
  unfold correlateStep at hq
  split at hq
  next =>
    split at hq
    next => cases hq
    next rest _ =>
      have taken : Keeps [.pru] p (setPru p { p.pru with intake := rest }) :=
        keeps_setPru_rest rfl rfl (fun _ h => h) rfl rfl rfl
      dsimp only at hq
      split at hq
      next =>
        cases hq
        exact taken.andThen (keeps_countPulls _ _)
      next =>
        cases hq
        exact ((taken.trans (keeps_setPulls _ _)).trans (keeps_setSlot _ _)).mono
  next e _ _ =>
    split at hq
    next =>
      cases hq
      exact ((keeps_handInPart p .ball e.ball).trans ((keeps_handInPart _ .stitch e.stitch).trans
        (keeps_setSlot _ _))).mono
    next => cases hq
  next =>
    split at hq
    next =>
      cases hq
      exact keeps_composeResult p _ _ _ _ _
    next => cases hq

theorem keeps_correlate : ∀ (n : Nat) (p : Part), Keeps pumpBroken p (correlate n p)
  | 0, p => .refl _ p
  | n + 1, p => by
    unfold correlate
    split
    next => exact .refl _ p
    next q hq => exact (keeps_correlateStep hq).andThen (keeps_correlate n q)

theorem keeps_pumpPulls (p : Part) : Keeps pumpBroken p (pumpPulls p) :=
  (keeps_handInWrites 2 p).andThen (keeps_correlate _ _)

theorem keeps_resolvePart (p : Part) (ph : Phase) (x : Lookback) : Keeps [.pru, .slot] p (resolvePart p ph x) := by
  unfold resolvePart
  split
  next => cases ph <;> exact keeps_setSlot p _
  next => exact .refl _ p
  next => exact .refl _ p

/-! ## Results of lookups and the completion of fetches (R40 to R43) -/

/-- The laws that the delivery of a lookup's result breaks. -/
def lookupBroken : List Law := .lookups :: .slot :: issueBroken

theorem keeps_deliverLookup (p : Part) (w : Waiter) (x : LookupState) :
    Keeps lookupBroken p (deliverLookup p w x) := by
  unfold deliverLookup
  split
  next h i _ => exact (keeps_modContext_any p h i _).andThen (keeps_judgeAndIssue _ h i)
  next =>
    split
    next => exact (keeps_settleClass p _ _).andThen (keeps_pumpPulls _)
    next => exact .refl _ p
    next => exact .refl _ p

theorem keeps_resolveAll (p : Part) (ws : List Waiter) (r : Resolution) : Keeps lookupBroken p (resolveAll p ws r) :=
  Keeps.foldl (fun q w => keeps_deliverLookup q w _) ws p

theorem keeps_leaveWait (p : Part) (w : Waiter) : Keeps [.map] p (leaveWait p w) :=
  keeps_setMap_of_subset rfl fun _ h => List.mem_of_mem_filter h

theorem keeps_retryLookup (p : Part) (x : PlaceWait) : Keeps lookupBroken p (retryLookup p x) := by
  unfold retryLookup
  split
  next h =>
    obtain ⟨y, hy, e⟩ := List.any_eq_true.1 h
    have examined := keeps_examineLookup p x.key x.waiter true (.inr ⟨y, hy, by rw [eq_of_beq e]⟩)
    dsimp only
    split
    next => exact examined.mono
    next => exact ((examined.trans (keeps_leaveWait _ _)).trans (keeps_deliverLookup _ _ _)).mono
    next => exact ((examined.trans (keeps_leaveWait _ _)).trans (keeps_deliverLookup _ _ _)).mono
  next => exact .refl _ p

theorem keeps_retryWaits (p : Part) : Keeps lookupBroken p (retryWaits p) :=
  Keeps.foldl keeps_retryLookup _ p

theorem keeps_rerunLookup (key : MapKey) (p : Part) (w : Waiter) :
    Keeps (.waits :: lookupBroken) p (rerunLookup key p w) :=
  .ite (fun _ => (keeps_examineLookup_any p key w false).andThen (keeps_deliverLookup _ w _)) fun _ => .refl _ p

theorem keeps_insertEntry (p : Part) (key : MapKey) (e : MapEntry) : Keeps [.map, .mapSlots] p (insertEntry p key e) :=
  (keeps_setMap_any p _).mend .waits fun y hy => .inr ⟨y, hy, rfl⟩

/-- The laws that the completion of a fetch breaks. -/
def fetchBroken : List Law := .waits :: .mapSlots :: lookupBroken

theorem keeps_applyFetch (p : Part) (f : Fetch) (x : Option MapEntry) : Keeps fetchBroken p (applyFetch p f x) := by
  unfold applyFetch
  split
  next => exact (keeps_countMap p _).andThen (keeps_resolveAll _ _ _)
  next =>
    split
    next => exact (keeps_countMap p _).andThen (Keeps.foldl (keeps_rerunLookup f.key) _ _)
    next =>
      split
      next => exact (keeps_insertEntry p _ _).andThen (keeps_resolveAll _ _ _)
      next => exact (keeps_resolveAll p _ _).mono

theorem keeps_dropFetch (p : Part) (key : MapKey) :
    Keeps [.map] p (setMap p { p.map with fetches := p.map.fetches.filter fun x => x.key != key }) :=
  keeps_setMap_of_subset rfl fun _ h => h

theorem keeps_fetchComplete (p : Part) (key : MapKey) (x : Option MapEntry) :
    Keeps fetchBroken p (fetchComplete p key x) := by
  unfold fetchComplete
  split
  next => exact .refl _ p
  next f _ =>
    exact (((keeps_dropFetch p key).trans (keeps_applyFetch _ f x)).trans (keeps_retryWaits _)).mono

end Sys2Proof.Machine
end

section
/-! PROOFS. Which laws the panel line, the release of holds, the service of the store, the purges and the restarts
keep. -/

namespace Sys2Proof.Machine

-- One proof after another: every thread of a compile reserves its own stack.
set_option Elab.async false

/-- All laws but those that every event of the ring, the store and the panels keeps: part time, the station
number, the ring's link but at frames and at the watchdog, unique alarms, ten strip records, and the replies
owed. -/
def worldBroken : List Law :=
  [.rp, .outbound, .cu, .bm, .groups, .lookups, .map, .mapSlots, .waits, .store, .growth, .records, .st, .unitAsks,
   .pru, .plans, .pulls, .slot, .ahu, .heads, .feeders, .storeHold, .kinds, .bondAlarms, .pnc, .line, .views]

/-! ## The panel line -/

/-- The laws that a change of the Panel Controller breaks. -/
def lineBroken : List Law := [.pnc, .line, .views]

theorem keeps_modPanel (p : Part) (i : Fin 4) (f : Panel → Panel) : Keeps lineBroken p (modPanel p i f) :=
  keeps_setPnc_any p _

theorem keeps_setWalk (p : Part) (w : WalkState) : Keeps lineBroken p (setWalk p w) := keeps_setPnc_any p _

theorem keeps_startMessage (p : Part) (i : Fin 4) (lines : Nat) (m : Message) :
    Keeps lineBroken p (startMessage p i lines m) := (keeps_modPanel p i _).andThen (keeps_setPnc_any _ _)

theorem keeps_nextMessage (p : Part) (i : Fin 4) (lines : Nat) (b : Bool) :
    Keeps lineBroken p (nextMessage p i lines b) := keeps_startMessage p i lines _

theorem keeps_walkFrom : ∀ (n : Nat) (p : Part), Keeps lineBroken p (walkFrom n p)
  | 0, p => .refl _ p
  | n + 1, p => by
    unfold walkFrom
    split
    next => exact keeps_setWalk p _
    next =>
      split
      next => exact (keeps_setPnc_any p _).andThen (keeps_nextMessage _ _ _ _)
      next =>
        dsimp only
        split
        next => exact (keeps_setPnc_any p _).andThen (keeps_setWalk _ _)
        next => exact (keeps_setPnc_any p _).andThen (keeps_walkFrom n _)

theorem keeps_walkOn (p : Part) : Keeps lineBroken p (walkOn p) := keeps_walkFrom 33 p

theorem keeps_emptyTransmitter (p : Part) : Keeps lineBroken p (emptyTransmitter p) := keeps_setPnc_any p _

theorem keeps_endTurn (p : Part) : Keeps lineBroken p (endTurn p) := by
  unfold endTurn
  dsimp only
  split
  next =>
    exact (((keeps_emptyTransmitter p).trans (keeps_setPnc_any _ _)).trans (keeps_walkOn _)).mono
  next =>
    split
    next => exact (((keeps_emptyTransmitter p).trans (keeps_setPnc_any _ _)).trans (keeps_setWalk _ _)).mono
    next => exact (((keeps_emptyTransmitter p).trans (keeps_setPnc_any _ _)).trans (keeps_walkOn _)).mono

theorem keeps_openWindow (p : Part) (i : Fin 4) : Keeps lineBroken p (openWindow p i) :=
  (keeps_emptyTransmitter p).andThen (keeps_setWalk _ _)

theorem keeps_messageSent (p : Part) : Keeps lineBroken p (messageSent p) := by
  unfold messageSent
  split
  next =>
    split
    next => exact keeps_endTurn p
    next =>
      split
      next => exact keeps_nextMessage p _ _ _
      next => exact keeps_nextMessage p _ _ _
      next => exact keeps_openWindow p _
  all_goals exact .refl _ p

theorem keeps_restEnds (p : Part) : Keeps lineBroken p (restEnds p) := by
  unfold restEnds
  split
  next => exact keeps_walkOn p
  all_goals exact .refl _ p

theorem keeps_receiveChar (p : Part) (x : RxChar) : Keeps lineBroken p (receiveChar p x) := by
  unfold receiveChar
  split
  next => exact (keeps_setWalk p _).andThen (keeps_setPnc_any _ _)
  all_goals exact (keeps_setPnc_any p _).andThen (keeps_setPnc_any _ _)

theorem keeps_reconsiderWalk (p : Part) : Keeps lineBroken p (reconsiderWalk p) := by
  unfold reconsiderWalk
  split
  next => exact keeps_walkOn p
  next => exact .ite (fun _ => .refl _ p) fun _ => keeps_setWalk p _
  all_goals exact .refl _ p

theorem keeps_cutTurn (p : Part) (i : Fin 4) : Keeps lineBroken p (cutTurn p i) := by
  unfold cutTurn
  split
  next => exact .ite (fun _ => keeps_setWalk p _) fun _ => .refl _ p
  next => exact .ite (fun _ => keeps_endTurn p) fun _ => .refl _ p
  all_goals exact keeps_reconsiderWalk p

theorem keeps_configPanel (p : Part) (i : Fin 4) (on : Bool) (address : Nat) (head : Option Side) :
    Keeps lineBroken p (configPanel p i on address head) :=
  (keeps_modPanel p i _).andThen (keeps_cutTurn _ i)

theorem keeps_configLine (p : Part) (s : LineSettings) : Keeps lineBroken p (configLine p s) :=
  keeps_setPnc_any p _

theorem keeps_writePoll (p : Part) (table : Vector (Option (Fin 4)) 16) : Keeps lineBroken p (writePoll p table) := by
  unfold writePoll
  dsimp only
  split
  next => exact (keeps_setPnc_any p _).andThen (keeps_setPnc_any _ _)
  next => exact (keeps_setPnc_any p _).andThen (keeps_setPnc_any _ _)
  all_goals exact (((keeps_setPnc_any p _).trans (keeps_setPnc_any _ _)).trans (keeps_reconsiderWalk _)).mono

theorem keeps_writeScreen (p : Part) (g : Fin 4) (l : Fin 8) (t : Template) : Keeps lineBroken p (writeScreen p g l t) :=
  (keeps_setPnc_any p _).andThen (keeps_setPnc_any _ _)

theorem keeps_restartPanels (p : Part) : Keeps lineBroken p (restartPanels p) :=
  (keeps_setWalk p _).andThen (keeps_setPnc_any _ _)

theorem keeps_setBeep (p : Part) (i : Fin 4) : Keeps lineBroken p (setBeep p i) := keeps_modPanel p i _

theorem keeps_refuseKey (p : Part) (i : Fin 4) : Keeps lineBroken p (refuseKey p i) :=
  (keeps_setBeep p i).andThen (keeps_setPnc_any _ _)

theorem keeps_moveSelection (p : Part) (i : Fin 4) (move : List Alarm → BitVec 16 → Option (BitVec 16)) :
    Keeps lineBroken p (moveSelection p i move) := by
  unfold moveSelection
  split
  next => exact keeps_refuseKey p i
  next => exact keeps_modPanel p i _

/-! ## The release of holds (R124, R132, R133) -/

theorem keeps_actOnEmptied (before p : Part) : Keeps [.rp, .st, .ahu, .pnc] p (actOnEmptied before p) := by
  have head : ∀ (c : Bool) (q : Part) h, Keeps [.rp, .st, .ahu, .pnc] q (if c then examineUnitAsk q h else q) :=
    fun c q h => .ite (fun _ => (keeps_examineUnitAsk q h).mono) fun _ => .refl _ q
  have feeder : ∀ (c : Bool) (q : Part) l, Keeps [.rp, .st, .ahu, .pnc] q (if c then mayEnter q l else q) :=
    fun c q l => .ite (fun _ => keeps_mayEnter q l) fun _ => .refl _ q
  exact (((head _ p .zero).trans (head _ _ .one)).trans ((feeder _ _ .zero).trans (feeder _ _ .one))).mono

/-- The laws that a change of the hold sets and what it sets off break. -/
def holdsBroken : List Law := [.rp, .st, .pru, .ahu, .heads, .feeders, .storeHold, .kinds, .bondAlarms, .pnc]

theorem keeps_dropReasons (p : Part) (k : AlarmKind) (s : AlarmSource) : Keeps holdsBroken p (dropReasons p k s) :=
  (((keeps_modHead_any p .zero _).trans (keeps_modHead_any _ .one _)).trans
    ((keeps_modFeeder _ .zero _).trans (keeps_modFeeder _ .one _))).mono

theorem keeps_emptyWindowsOf (p : Part) (a : Alarm) : Keeps [.pru, .pnc] p (emptyWindowsOf p a) := by
  unfold emptyWindowsOf
  split
  next => exact keeps_modWindows p _ _
  next => exact .refl _ p

theorem keeps_ackAlarm {p q : Part} {n : BitVec 16} (hq : ackAlarm p n = some q) : Keeps holdsBroken p q := by
  unfold ackAlarm at hq
  split at hq
  next => cases hq
  next a _ =>
    cases hq
    exact ((((keeps_takeOutAlarm p a).trans (keeps_dropReasons _ _ _)).trans
      ((keeps_emptyWindowsOf _ a).trans (keeps_offerAlarm _ .acknowledged a))).trans (keeps_actOnEmptied p _)).mono

theorem keeps_refuseAck (p : Part) : Keeps [.ahu] p (refuseAck p) := keeps_countAlarms p _

theorem keeps_holdHead (p : Part) (h : Side) : Keeps holdsBroken p (holdHead p h) := (keeps_modHead_any p h _).mono

theorem keeps_resumeHead (p : Part) (h : Side) : Keeps holdsBroken p (resumeHead p h) :=
  (keeps_modHead_any p h _).andThen (keeps_actOnEmptied p _)

theorem keeps_enableLane (p : Part) (l : Side) : Keeps [.st, .pnc] p (enableLane p l) :=
  keeps_modLane ⟨rfl, id, rfl, id⟩

theorem keeps_dropLaneOff (p : Part) (l : Side) : Keeps holdsBroken p (dropLaneOff p l) :=
  (((keeps_modHead_any p l _).trans (keeps_modFeeder _ l _)).trans (keeps_actOnEmptied p _)).mono

theorem keeps_disableLane (p : Part) (l : Side) : Keeps holdsBroken p (disableLane p l) :=
  (((keeps_modLane (f := fun lane => { lane with enabled := false }) ⟨rfl, id, rfl, id⟩).trans
    (keeps_modHead_any _ l _)).trans (keeps_modFeeder _ l _)).mono

theorem keeps_addRingLost (p : Part) : Keeps [.ahu, .heads, .pnc] p (addRingLost p) :=
  (keeps_modHead (p := p) (h := .zero) (f := fun x => { x with ringLost := true }) fun _ h => h).andThen
    (keeps_modHead (h := .one) (f := fun x => { x with ringLost := true }) fun _ h => h)

theorem keeps_dropRingLost (p : Part) : Keeps holdsBroken p (dropRingLost p) :=
  (((keeps_modHead_any p .zero _).trans (keeps_modHead_any _ .one _)).trans (keeps_actOnEmptied p _)).mono

/-! ## The service of the store (R54 to R60) -/

theorem keeps_setStore_any (p : Part) (x : RecordStore) : Keeps [.store, .growth, .records] p (setStore p x) := by
  intro l hl
  have same := l.refl p
  cases l with
  | store => simp at hl
  | growth => simp at hl
  | records => simp at hl
  | _ => exact same

theorem keeps_countStore (p : Part) {f : StoreCounters → StoreCounters} (timeouts : ∀ c, (f c).timeouts = c.timeouts)
    (faulted : ∀ c, (f c).faulted = c.faulted) : Keeps [.store] p (countStore p f) :=
  keeps_setStore (growth_counters (timeouts _) (by rw [faulted]))

theorem keeps_judgeLookback (p : Part) (k : BitVec 32) (bs : List Byte) :
    Keeps [.store] p (judgeLookback p k bs).1 := by
  unfold judgeLookback
  split
  next => exact .refl _ p
  next => exact keeps_countStore p (fun _ => rfl) fun _ => rfl

theorem keeps_replyLookback (p : Part) (x : Lookback) : Keeps [.rp, .cu] p (replyLookback p x) := by
  cases x <;> exact keeps_replyDone p _

/-- The laws that the delivery of a request's completion breaks, other than of a BOND_WRITE. -/
def deliverBroken : List Law := .cu :: fetchBroken

/-- The delivery of a completion that frees no write slot. -/
theorem keeps_deliverRequest {p : Part} {r : Request} (hr : ∀ h x, r.kind ≠ .bondWrite h x)
    (got : Option (List Byte)) : Keeps deliverBroken p (deliverRequest p r got) := by
  unfold deliverRequest
  split
  next => exact .refl _ p
  next =>
    split
    next key _ => exact (keeps_fetchComplete p key _).mono
    next h x e => exact absurd e (hr h x)
    next =>
      split
      next => exact (keeps_resolvePart p _ _).mono
      next => exact (keeps_judgeLookback p _ _).andThen (keeps_resolvePart _ _ _)
    next => exact .refl _ p
    next =>
      split
      next => exact (keeps_replyRefused p _).mono
      next => exact (keeps_replyDone p _).mono
    next =>
      split
      next => exact (keeps_replyRefused p _).mono
      next => exact (keeps_replyDone p _).mono
    next =>
      split
      next => exact (keeps_replyLookback p _).mono
      next => exact (keeps_judgeLookback p _ _).andThen (keeps_replyLookback _ _)

theorem keeps_freeSlot (p : Part) (h x : Side) :
    Keeps [.bm, .growth] p (modChannel p h fun ch => { ch with slots := ch.slots.set x none }) := by
  refine (keeps_modChannel_any p h _).mend .lookups fun g i c hc => ⟨c, ?_, rfl⟩
  simp only [contextOf, modChannel_channels, Two.get_set_eq_ite] at hc ⊢
  split at hc
  next e => exact e ▸ hc
  next => exact hc

theorem keeps_freeWriteSlot (p : Part) (h x : Side) : Keeps (.growth :: issueBroken) p (freeWriteSlot p h x) :=
  (keeps_freeSlot p h x).andThen (keeps_examineIssue _ h)

theorem keeps_deliverRequest_any (p : Part) (r : Request) (got : Option (List Byte)) :
    Keeps (.growth :: deliverBroken) p (deliverRequest p r got) := by
  by_cases hr : ∀ h x, r.kind ≠ .bondWrite h x
  · exact (keeps_deliverRequest hr got).mono
  · simp only [not_forall, not_not] at hr
    obtain ⟨h, x, e⟩ := hr
    unfold deliverRequest
    rw [e]
    split
    next => exact .refl _ p
    next => exact (keeps_freeWriteSlot p h x).mono

theorem keeps_finishRequest_any (p : Part) (r : Request) (got : Option (List Byte)) :
    Keeps (.growth :: deliverBroken) p (finishRequest p r got) :=
  (keeps_deliverRequest_any p r got).andThen (keeps_pumpPulls _)

theorem keeps_faultRequest_any (p : Part) (r : Request) : Keeps (.growth :: deliverBroken) p (faultRequest p r) := by
  unfold faultRequest
  split
  next => exact keeps_finishRequest_any p r none
  next => exact (keeps_countFaulted p).andThen (keeps_finishRequest_any _ r none)

theorem keeps_leaveQueue (p : Part) (rest : List Request) : Keeps [.store, .growth, .records] p (leaveQueue p rest) :=
  keeps_setStore_any p _

theorem keeps_becomeReady (p : Part) : Keeps (.growth :: .records :: issueBroken) p (becomeReady p) :=
  (keeps_setStore_any p _).andThen (keeps_examineBoth _)

theorem keeps_becomeOff (p : Part) : Keeps [.rp, .store, .growth, .records] p (becomeOff p) :=
  (keeps_setStore_any p _).andThen (keeps_offerStore _)

theorem keeps_finishDisable (p : Part) : Keeps (.cu :: .growth :: .records :: issueBroken) p (finishDisable p) :=
  (((keeps_becomeOff p).trans (keeps_replyDone _ _)).trans (keeps_examineBoth _)).mono

theorem keeps_goOn (p : Part) : Keeps (.cu :: .growth :: .records :: issueBroken) p (goOn p) :=
  .ite (fun _ => keeps_finishDisable p) fun _ => .ite (fun _ => (keeps_becomeReady p).mono) fun _ => .refl _ p

theorem keeps_completeAccess (p : Part) (bytes : List Byte) : Keeps worldBroken p (completeAccess p bytes) := by
  unfold completeAccess
  split
  next => exact .refl _ p
  next =>
    dsimp only
    split
    next =>
      exact (((keeps_leaveQueue p _).trans (keeps_finishRequest_any _ _ _)).trans (keeps_goOn _)).mono
    next =>
      split
      next => exact (((keeps_leaveQueue p _).trans (keeps_faultRequest_any _ _)).trans (keeps_goOn _)).mono
      next => exact (keeps_setStore_any p _).mono

theorem keeps_captureFault (p : Part) (addr cls : Nat) :
    Keeps [.store, .growth, .records] p (captureFault p addr cls) := by
  unfold captureFault
  split
  next => exact keeps_setStore_any p _
  next => exact .refl _ p

theorem keeps_timeoutAccess (p : Part) : Keeps worldBroken p (timeoutAccess p) := by
  unfold timeoutAccess
  split
  next => exact .refl _ p
  next =>
    exact ((((keeps_leaveQueue p _).trans (keeps_setStore_any _ _)).trans ((keeps_captureFault _ _ _).trans
      (keeps_raiseAlarm _ _ _ _))).trans ((keeps_finishRequest_any _ _ none).trans (keeps_goOn _))).mono

theorem keeps_storeOn (p : Part) : Keeps worldBroken p (storeOn p) :=
  ((((keeps_setStore_any p _).trans (keeps_replyDone _ _)).trans (keeps_offerStore _)).trans
    (keeps_examineBoth _)).mono

theorem keeps_drainRequest (p : Part) (r : Request) : Keeps worldBroken p (drainRequest p r) :=
  (keeps_setStore_any p _).andThen (keeps_faultRequest_any _ r)

theorem keeps_beginDrain (p : Part) : Keeps worldBroken p (beginDrain p) :=
  ((((keeps_setStore_any p _).trans (keeps_flushWrites _)).trans (keeps_pumpPulls _)).trans
    ((Keeps.foldl keeps_drainRequest _ _).trans (keeps_examineBoth _))).mono

theorem keeps_storeOff (p : Part) : Keeps worldBroken p (storeOff p) := by
  have cleared := keeps_setStore_any p { p.store with firstFault := none }
  unfold storeOff
  dsimp only
  split
  next => exact cleared.andThen (keeps_replyDone _ _)
  next => exact ((cleared.trans (keeps_flushWrites _)).trans (keeps_finishDisable _)).mono
  next => exact cleared.andThen (keeps_beginDrain _)
  next => exact cleared.mono

end Sys2Proof.Machine
end

section
/-! PROOFS. Which laws the purges, restarts, requests, telemetry, commands and frames keep, and from them the
invariants that every step keeps. -/

namespace Sys2Proof.Machine

-- One proof after another: every thread of a compile reserves its own stack.
set_option Elab.async false

/-! ## Purges and restarts (R91, R96, R179) -/

/-- The reservations are `d`, within the bounds of R167. -/
def Balance (d : Nat) (p : Part) : Prop :=
  p.rp.reservations = d ∧ outboundTotal p ≤ outboundPlaces ∧ noticeCount p ≤ noticePlaces

theorem owes_iff_balance (d : Nat) (p : Part) : Owes d p ↔ Balance (heldRequests p + d) p := Iff.rfl

theorem balance_of_rp {d : Nat} {p q : Part} (h : Balance d p) (rp : q.rp = p.rp) : Balance d q := by
  simpa only [Balance, outboundTotal, noticeCount, rp] using h

theorem balance_giveReply {d : Nat} {p : Part} (h : Balance (d + 1) p) {k : Byte} (hk : k ≠ 0x12) (a : Ask)
    (pl : List Byte) : Balance d (giveReply p k a pl) := by
  obtain ⟨hr, ht, hn⟩ := h
  exact ⟨by rw [giveReply_reservations, hr]; rfl, (outboundTotal_giveReply (by omega) k a pl).trans_le ht,
    (noticeCount_giveReply p hk a pl).trans_le hn⟩

/-- An ask that waits is answered, if there is one. -/
theorem balance_answerAsk {d : Nat} {a : Option Ask} {f : Part → Ask → Part} {p : Part}
    (h : Balance (a.toList.length + d) p) (hf : ∀ q x, Balance (d + 1) q → Balance d (f q x)) :
    Balance d (answerAsk a f p) := by
  cases a with
  | none =>
    rw [Option.toList_none, List.length_nil, Nat.zero_add] at h
    exact h
  | some x => exact hf p x (by simpa only [Option.toList_some, List.length_singleton, Nat.add_comm] using h)

theorem balance_denyAsk {d : Nat} {k : Byte} (hk : k ≠ 0x12) (r : AskReason) (q : Part) (x : Ask)
    (h : Balance (d + 1) q) : Balance d (denyAsk q k x r) := balance_giveReply h hk x _

theorem keeps_answerAsk {s : List Law} {f : Part → Ask → Part} (hf : ∀ q x, Keeps s q (f q x)) (a : Option Ask)
    (p : Part) : Keeps s p (answerAsk a f p) := by
  cases a with
  | none => exact .refl s p
  | some x => exact hf p x

theorem keeps_denyAsk (p : Part) (k : Byte) (a : Ask) (r : AskReason) : Keeps [.rp, .owes] p (denyAsk p k a r) :=
  keeps_giveReply p k a _

theorem keeps_purgePulls (p : Part) (ns : List (BitVec 16)) : Keeps [.map, .pru, .pulls, .pnc] p (purgePulls p ns) :=
  (((keeps_setPulls p _).trans (Keeps.foldl (fun q (e : PendingPull) => keeps_withdrawClass q e.pullClass) _ _)).trans
    (keeps_countPulls _ _)).mono

theorem laneRecords_length (a : Lane) : (laneRecords a).length = laneCount a := by
  unfold laneRecords laneCount allPositions
  cases hp : a.pulling <;> cases hq : a.pre <;> cases hb : a.bond <;> cases he : a.exit <;>
    simp [List.filterMap, atPosition, hp, hq, hb, he]

/-- The laws that a lane purge breaks. -/
def purgeBroken : List Law := [.rp, .map, .st, .pru, .pulls, .pnc]

theorem keeps_lanePurge (p : Part) (l : Side) : Keeps purgeBroken p (lanePurge p l) := by
  let lane := p.st.lanes.get l
  let gone := (laneRecords lane).map fun x => (x.1, purgeStrip x.2)
  let cleared := modLane p l clearLane
  let purged := setSt cleared { cleared.st with purged := cleared.st.purged ++ gone.map fun x => x.2 }
  let unitAnswered := answerAsk lane.unitAsk (fun p a => denyAsk p 0x33 a .purged) purged
  let feedAnswered := answerAsk (lane.feedAsk.map fun f => f.ask) (fun p a => denyAsk p 0x31 a .purged) unitAnswered
  let answered := answerAsk lane.moveAsk (fun p a => giveReply p 0x34 a []) feedAnswered
  have moved : Keeps [.st, .ten, .owes, .unitAsks, .pnc] p purged := by
    have any : Keeps [.st, .ten, .owes, .unitAsks] cleared purged := by
      intro k hk
      have same := k.refl cleared
      cases k with
      | st => simp at hk
      | ten => simp at hk
      | owes => simp at hk
      | unitAsks => simp at hk
      | _ => exact same
    exact (keeps_modLane_any p l clearLane).andThen any
  have replied : Keeps [.rp, .owes] purged answered :=
    ((keeps_answerAsk (fun q x => keeps_denyAsk q _ x _) _ purged).trans
      ((keeps_answerAsk (fun q x => keeps_denyAsk q _ x _) _ unitAnswered).trans
        (keeps_answerAsk (fun q x => keeps_giveReply q _ x _) _ feedAnswered))).mono
  have st : answered.st = purged.st := replied .st (by simp)
  have any : Keeps [.rp, .st, .ten, .owes, .unitAsks, .pnc] p answered := moved.andThen replied
  have ten : Keeps [.rp, .st, .owes, .unitAsks, .pnc] p answered := any.mend .ten fun ⟨sum, hz, ho⟩ => by
    have count : gone.length = laneCount lane := (List.length_map ..).trans (laneRecords_length lane)
    rw [st]
    cases l with
    | zero =>
      refine ⟨?_, fun _ => rfl, ho⟩
      simp [purged, cleared, Two.set, clearLane, laneCount, count, lane, Two.get] at sum ⊢
      omega
    | one =>
      refine ⟨?_, hz, fun _ => rfl⟩
      simp [purged, cleared, Two.set, clearLane, laneCount, count, lane, Two.get] at sum ⊢
      omega
  have asks : Keeps [.rp, .st, .owes, .pnc] p answered := ten.mend .unitAsks fun g hg => by
    rw [st]
    simp only [purged, cleared, setSt_st, modLane_st, Two.get_set_eq_ite]
    split
    next => rfl
    next => exact hg
  have paid : Keeps [.rp, .st, .pnc] p answered := asks.mend .owes fun d h => by
    have held := heldRequests_modLane p l clearLane
    have heldPurged : heldRequests purged = heldRequests cleared := rfl
    have heldAnswered : heldRequests answered = heldRequests purged := by
      simp only [heldRequests, st, show answered.cu = purged.cu from replied .cu (by simp)]
    have less : laneAsks (clearLane lane) = 0 := rfl
    rw [owes_iff_balance] at h ⊢
    have start : Balance (lane.unitAsk.toList.length + ((lane.feedAsk.map fun f => f.ask).toList.length +
        (lane.moveAsk.toList.length + (heldRequests answered + d)))) purged := by
      have e : heldRequests p + d = lane.unitAsk.toList.length + ((lane.feedAsk.map fun f => f.ask).toList.length +
          (lane.moveAsk.toList.length + (heldRequests answered + d))) := by
        have hl : laneAsks lane = lane.feedAsk.toList.length + lane.moveAsk.toList.length +
          lane.unitAsk.toList.length := rfl
        have hm : (lane.feedAsk.map fun f => f.ask).toList.length = lane.feedAsk.toList.length := by
          cases lane.feedAsk <;> rfl
        change heldRequests cleared + laneAsks lane = _ + laneAsks (clearLane lane) at held
        omega
      exact balance_of_rp (e ▸ h) rfl
    exact balance_answerAsk (balance_answerAsk (balance_answerAsk start (balance_denyAsk (by decide) _))
      (balance_denyAsk (by decide) _)) fun q x hq => balance_giveReply hq (by decide) x []
  exact ((paid.trans (keeps_purgePulls _ _)).trans
    (Keeps.foldl (fun q (x : Position × Strip) => keeps_offerStrip q (purgedNotice l x.2 (positionCode x.1)))
      gone _)).mono

/-- The asks of both lanes are answered and the strips reset (R96). -/
theorem keeps_restartStrips (p : Part) : Keeps [.rp, .st] p (restartStrips p) := by
  let a := p.st.lanes.zero
  let b := p.st.lanes.one
  let fa := answerAsk (a.feedAsk.map fun f => f.ask) (fun p x => denyAsk p 0x31 x .abandoned) p
  let fb := answerAsk (b.feedAsk.map fun f => f.ask) (fun p x => denyAsk p 0x31 x .abandoned) fa
  let ua := answerAsk a.unitAsk (fun p x => denyAsk p 0x33 x .abandoned) fb
  let ub := answerAsk b.unitAsk (fun p x => denyAsk p 0x33 x .abandoned) ua
  let ma := answerAsk a.moveAsk (fun p x => denyAsk p 0x35 x .abandoned) ub
  let mb := answerAsk b.moveAsk (fun p x => denyAsk p 0x35 x .abandoned) ma
  have deny : ∀ k r q x, Keeps [.rp, .owes] q (denyAsk q k x r) := fun k r q x => keeps_denyAsk q k x r
  have replied : Keeps [.rp, .owes] p mb :=
    (((keeps_answerAsk (deny _ _) _ p).trans (keeps_answerAsk (deny _ _) _ fa)).trans
      (((keeps_answerAsk (deny _ _) _ fb).trans (keeps_answerAsk (deny _ _) _ ua)).trans
        ((keeps_answerAsk (deny _ _) _ ub).trans (keeps_answerAsk (deny _ _) _ ma)))).mono
  have reset : Keeps [.st, .ten, .owes, .unitAsks] mb (restartStrips p) := by
    intro k hk
    have same := k.refl mb
    cases k with
    | st => simp at hk
    | ten => simp at hk
    | owes => simp at hk
    | unitAsks => simp at hk
    | _ => exact same
  have any : Keeps [.rp, .st, .ten, .owes, .unitAsks] p (restartStrips p) := replied.andThen reset
  have ten : Keeps [.rp, .st, .owes, .unitAsks] p (restartStrips p) :=
    any.mend .ten fun _ => ⟨rfl, fun _ => rfl, fun _ => rfl⟩
  have asks : Keeps [.rp, .st, .owes] p (restartStrips p) := ten.mend .unitAsks fun g _ => by cases g <;> rfl
  refine asks.mend .owes fun d h => ?_
  rw [owes_iff_balance] at h ⊢
  have held : heldRequests (restartStrips p) = p.cu.inProgress.toList.length := by
    have cu : (restartStrips p).cu = p.cu := any .cu (by simp)
    have lanes : (restartStrips p).st.lanes = ⟨restartLane a, restartLane b⟩ := rfl
    simp [heldRequests, cu, lanes, laneAsks, restartLane]
  have feeds : ∀ lane : Lane, (lane.feedAsk.map fun f => f.ask).toList.length = lane.feedAsk.toList.length :=
    fun lane => by cases lane.feedAsk <;> rfl
  have start : Balance ((a.feedAsk.map fun f => f.ask).toList.length + ((b.feedAsk.map fun f => f.ask).toList.length +
      (a.unitAsk.toList.length + (b.unitAsk.toList.length + (a.moveAsk.toList.length + (b.moveAsk.toList.length +
        (heldRequests (restartStrips p) + d))))))) p := by
    refine Eq.subst (motive := fun n => Balance n p) ?_ h
    simp only [heldRequests] at held ⊢
    rw [held, feeds, feeds]
    simp only [laneAsks, a, b]
    omega
  have deny' := fun {n : Nat} k hk r => balance_denyAsk (d := n) (k := k) hk r
  have fed := balance_answerAsk (balance_answerAsk start (deny' 0x31 (by decide) .abandoned))
    (deny' 0x31 (by decide) .abandoned)
  have units := balance_answerAsk (balance_answerAsk fed (deny' 0x33 (by decide) .abandoned))
    (deny' 0x33 (by decide) .abandoned)
  exact balance_answerAsk (balance_answerAsk units (deny' 0x35 (by decide) .abandoned))
    (deny' 0x35 (by decide) .abandoned)

/-- The notices leave the outbound queue (R172). -/
theorem keeps_restartOutbound (p : Part) : Keeps [.rp, .outbound] p (restartOutbound p) := by
  intro k hk
  have same := k.refl p
  cases k with
  | rp => simp at hk
  | outbound => simp at hk
  | owes =>
    intro d h
    obtain ⟨hr, ht, hn⟩ := h
    refine ⟨hr, le_trans ?_ ht, le_trans ?_ hn⟩
    · exact Nat.add_le_add_right (List.length_filter_le ..) _
    · exact List.Sublist.countP_le List.filter_sublist
  | _ => exact same

theorem keeps_clearContexts (p : Part) (h : Side) (on : Channel → Bool) :
    Keeps [.bm] p (modChannel p h fun ch => { clearContexts ch with on := on ch }) :=
  keeps_modChannel (fun _ => rfl) fun c i x hx => by
    have empty : (clearContexts c).contexts.get i = none := by
      simp [clearContexts, Vector.get]
    rw [show ({ clearContexts c with on := on c } : Channel).contexts.get i = none from empty] at hx
    cases hx

theorem keeps_restartChannels (p : Part) : Keeps [.bm, .map] p (restartChannels p) :=
  (((keeps_withdrawLookups p _).trans (keeps_clearContexts _ .zero Channel.on)).trans
    (keeps_clearContexts _ .one Channel.on)).mono

theorem keeps_flushCache (p : Part) : Keeps [.map, .mapSlots] p (flushCache p) :=
  (keeps_setMap_any p _).mend .waits fun y hy => .inr ⟨y, hy, rfl⟩

theorem keeps_restartPulls (p : Part) : Keeps [.map, .pru, .pulls, .slot] p (restartPulls p) :=
  (keeps_withdrawLookups p _).andThen (keeps_setPru rfl rfl fun _ h => h)

theorem keeps_restartHolds (p : Part) :
    Keeps [.ahu, .heads, .feeders, .storeHold, .kinds, .bondAlarms] p (restartHolds p) := by
  intro k hk
  have same := k.refl p
  cases k with
  | ahu => simp at hk
  | heads => simp at hk
  | feeders => simp at hk
  | storeHold => simp at hk
  | kinds => simp at hk
  | bondAlarms => simp at hk
  | unique => exact fun _ => List.Pairwise.nil
  | _ => exact same

theorem keeps_workRestart (p : Part) : Keeps worldBroken p (workRestart p) :=
  ((((keeps_restartOutbound p).trans (keeps_restartChannels _)).trans
    ((keeps_flushCache _).trans (keeps_setStore_any _ _))).trans
      (((keeps_restartStrips _).trans (keeps_restartPulls _)).trans
        ((keeps_restartHolds _).trans (keeps_restartPanels _)))).mono

end Sys2Proof.Machine
end

section
/-! PROOFS. Which laws the keys, commands, requests, telemetry, frames and events keep. -/

namespace Sys2Proof.Machine

-- One proof after another: every thread of a compile reserves its own stack.
set_option Elab.async false

/-! ## Keys and the close of a reply window (R146, R152 to R154) -/

theorem keeps_keyAck (p : Part) (i : Fin 4) : Keeps worldBroken p (keyAck p i) := by
  unfold keyAck
  dsimp only
  split
  next => exact (keeps_refuseKey p i).mono
  next =>
    split
    next => exact (keeps_refuseKey p i).mono
    next =>
      split
      next hq => exact (keeps_ackAlarm hq).mono
      next => exact (keeps_refuseAck p).andThen (keeps_setBeep _ i)

theorem keeps_keyPurge (p : Part) (i : Fin 4) : Keeps worldBroken p (keyPurge p i) := by
  unfold keyPurge
  split
  next => exact (keeps_refuseKey p i).mono
  next h _ => exact .ite (fun _ => (keeps_lanePurge p h).mono) fun _ => (keeps_refuseKey p i).mono

theorem keeps_keyHead (p : Part) (i : Fin 4) {f : Part → Side → Part} (hf : ∀ h, Keeps holdsBroken p (f p h)) :
    Keeps worldBroken p (keyHead p i f) := by
  unfold keyHead
  split
  next => exact (keeps_refuseKey p i).mono
  next h _ => exact (hf h).mono

theorem keeps_keyEffect (i : Fin 4) (key : Byte) (p : Part) : Keeps worldBroken p (keyEffect i key p) :=
  .ite (fun _ => (keeps_modPanel p i _).mono) fun _ => .ite (fun _ => (keeps_moveSelection p i _).mono) fun _ =>
    .ite (fun _ => (keeps_moveSelection p i _).mono) fun _ => .ite (fun _ => keeps_keyAck p i) fun _ =>
      .ite (fun _ => keeps_keyHead p i (keeps_holdHead p)) fun _ =>
        .ite (fun _ => keeps_keyHead p i (keeps_resumeHead p)) fun _ =>
          .ite (fun _ => keeps_keyPurge p i) fun _ => (keeps_refuseKey p i).mono

theorem keeps_removeAbsent_any (p : Part) (i : Fin 4) : Keeps holdsBroken p (removeAbsent p i) := by
  unfold removeAbsent
  split
  next => exact .refl _ p
  next a _ => exact (keeps_takeOutAlarm p a).andThen (keeps_offerAlarm _ .removed a)

theorem keeps_panelAnswers (p : Part) (i : Fin 4) : Keeps worldBroken p (panelAnswers p i) :=
  (keeps_modPanel p i _).andThen (keeps_removeAbsent_any _ i)

/-- The laws that a miss breaks. -/
def missBroken : List Law := [.rp, .ahu, .pnc, .line, .views]

theorem keeps_panelMisses (p : Part) (i : Fin 4) : Keeps missBroken p (panelMisses p i) := by
  have counted := keeps_modPanel p i fun x => { x with missesCount := inc x.missesCount }
  unfold panelMisses
  dsimp only
  split
  next =>
    split
    next => exact counted.andThen (keeps_modPanel _ i _)
    next => exact ((counted.trans (keeps_modPanel _ i _)).trans (keeps_raiseAlarm_quiet rfl _ _ _)).mono
  next => exact counted.mono

theorem keeps_judgeWindow (w : ReplyWindow) (p : Part) : Keeps worldBroken p (judgeWindow w p) := by
  unfold judgeWindow
  split
  next => exact (keeps_panelMisses p _).mono
  next => exact (keeps_modPanel p _ _).andThen (keeps_panelMisses _ _)
  next =>
    exact .ite (fun _ => keeps_panelAnswers p _) fun _ =>
      (keeps_panelAnswers p _).andThen (Keeps.foldl (fun q k => keeps_keyEffect w.panel k q) _ _)

theorem keeps_closeWindow (p : Part) : Keeps worldBroken p (closeWindow p) := by
  unfold closeWindow
  split
  next => exact (keeps_judgeWindow _ p).andThen (keeps_endTurn _)
  all_goals exact .refl _ p

/-! ## The commands of the cell computer -/

/-- A change and the reply that follows it. -/
theorem keeps_thenDone {s : List Law} {p q : Part} (h : Keeps s p q) (d : List Byte)
    (hs : s ⊆ worldBroken := by decide) : Keeps worldBroken p (replyDone q d) :=
  h.andThen (keeps_replyDone q d) hs

theorem keeps_refused (p : Part) (r : Reason) : Keeps worldBroken p (replyRefused p r) := (keeps_replyRefused p r).mono

theorem keeps_done (p : Part) (d : List Byte) : Keeps worldBroken p (replyDone p d) := (keeps_replyDone p d).mono

theorem keeps_setGroups (p : Part) (g : Vector BondGroup 64) :
    Keeps [.bm, .groups] p (setBm p { p.bm with groups := g }) := by
  intro l hl
  have same := l.refl p
  cases l with
  | bm => simp at hl
  | groups => simp at hl
  | _ => exact same

theorem keeps_invalidateKey (p : Part) (key : MapKey) : Keeps [.map, .mapSlots] p (invalidateKey p key) :=
  (keeps_setMap_any p _).mend .waits fun y hy => .inr ⟨y, hy, rfl⟩

theorem keeps_setRp_table (p : Part) (t : Vector Role 30) : Keeps [.rp] p (setRp p { p.rp with table := t }) :=
  keeps_setRp rfl ⟨rfl, rfl, rfl, rfl⟩ (List.prefix_refl _) fun d => (owes_setRp_iff rfl rfl d).2

theorem keeps_setRp_timeout (p : Part) (n : Nat) : Keeps [.rp] p (setRp p { p.rp with timeout := n }) :=
  keeps_setRp rfl ⟨rfl, rfl, rfl, rfl⟩ (List.prefix_refl _) fun d => (owes_setRp_iff rfl rfl d).2

theorem keeps_setChannel (p : Part) (h : Side) (on : Bool) : Keeps releaseBroken p (setChannel p h on) := by
  refine .ite (fun _ => .refl _ p) fun _ => .ite (fun _ => (keeps_clearContexts p h fun _ => true).mono) fun _ => ?_
  exact (((keeps_withdrawLookups p _).trans (keeps_clearContexts _ h fun _ => false)).trans
    (Keeps.foldl (fun q i => keeps_releaseUnit q h (refOf (p.bm.channels.get h) i) .suspect none) _ _)).mono

theorem keeps_clearGroup (p : Part) (g : CounterGroup) : Keeps worldBroken p (clearGroup p g) := by
  cases g with
  | ring => exact (keeps_countRing p _).mono
  | channel h =>
    refine (Keeps.tracked (s := [.bm]) ?_).mono
    exact keeps_countChannel p h _
  | map => exact (keeps_countMap p _).mono
  | store => exact (keeps_setStore_any p _).mono
  | strips => exact (keeps_countStrips p _).mono
  | pulls => exact (keeps_countPulls p _).mono
  | alarms => exact (keeps_countAlarms p _).mono
  | panels => exact (keeps_setPnc_any p _).andThen (keeps_setPnc_any _ _)
  | commands =>
    have cleared : Keeps [.cu] p (setCu p { p.cu with done := 0, refused := 0 }) := keeps_setCu rfl
    exact cleared.mono

/-- Every row of the table of R185 keeps the laws of the world. -/
theorem keeps_runRow (p : Part) (c : Command) (a : List Byte) : Keeps worldBroken p (runRow p c a) := by
  cases c <;> unfold runRow <;> dsimp only
  case stationSet =>
    unfold cmdStationSet
    split
    next => exact .ite (fun _ => keeps_refused p _) fun _ => keeps_thenDone (keeps_setRp_table p _) _
    next => exact keeps_refused p _
  case stationSetRing =>
    exact .ite (fun _ => keeps_refused p _) fun _ => keeps_thenDone (keeps_setRp_timeout p _) _
  case stationGet => exact keeps_done p _
  case programWrite =>
    unfold cmdProgramWrite
    split
    next => exact keeps_thenDone (keeps_setGroups p _) _
    next => exact keeps_refused p _
  case programRead =>
    unfold cmdProgramRead
    split
    next => exact keeps_refused p _
    next => exact keeps_done p _
  case mapConfig =>
    exact .ite (fun _ => keeps_refused p _) fun _ =>
      keeps_thenDone ((keeps_setStore_any p _).trans (keeps_flushCache _)) _
  case mapWrite =>
    unfold cmdMapWrite
    split
    next => exact keeps_refused p _
    next key _ =>
      have invalid := keeps_invalidateKey p key
      exact .ite (fun _ => keeps_refused p _) fun _ => .ite (fun hs => invalid.andThen (keeps_enqueue hs _)) fun _ =>
        ((invalid.trans (keeps_countFaulted _)).trans (keeps_replyRefused _ _)).mono
  case mapRead =>
    unfold cmdMapRead
    split
    next => exact keeps_refused p _
    next =>
      exact .ite (fun hs => (keeps_enqueue hs _).mono) fun _ =>
        (keeps_countFaulted p).andThen (keeps_replyRefused _ _)
  case mapFlush => exact keeps_thenDone (keeps_flushCache p) _
  case storeConfig =>
    refine .ite (fun _ => keeps_refused p _) fun _ => ?_
    split
    next => exact keeps_refused p _
    next =>
      have stored := fun x => keeps_setStore_any p x
      refine Keeps.andThen ?_ (keeps_replyDone _ _) (s := [.map, .mapSlots, .store, .growth, .records])
      exact .ite (fun _ => (stored _).andThen (keeps_flushCache _)) fun _ => (stored _).mono
  case storeEnable =>
    unfold cmdStoreEnable
    split
    next => exact .ite (fun _ => keeps_storeOn p) fun _ => keeps_refused p _
    all_goals exact keeps_done p _
  case storeDisable => exact keeps_storeOff p
  case storeStatus =>
    unfold cmdStoreStatus
    split
    next => exact keeps_refused p _
    next =>
      refine Keeps.andThen ?_ (keeps_replyDone _ _) (s := [.store, .growth, .records])
      exact .ite (fun _ => keeps_setStore_any p _) fun _ => .refl _ p
  case recordRead =>
    unfold cmdRecordRead
    split
    next => exact keeps_refused p _
    next r _ =>
      have handed := keeps_handInLookback p (.recordRead r (BitVec.ofNat 32 (word32At a 1))) r
        (BitVec.ofNat 32 (word32At a 1))
      dsimp only
      split
      next => exact handed.mono
      next => exact handed.andThen (keeps_replyLookback _ _)
  case laneConfig =>
    unfold cmdLaneConfig
    split
    next l c _ _ =>
      refine .ite (fun _ => keeps_refused p _) fun _ => ?_
      have set : Keeps [.st, .pnc] p (modLane p l fun x => { x with config := c, configured := true }) :=
        keeps_modLane ⟨rfl, id, rfl, id⟩
      exact keeps_thenDone set _
    next => exact keeps_refused p _
  case laneEnable =>
    unfold cmdLaneEnable
    split
    next => exact keeps_refused p _
    next l _ =>
      refine .ite (fun _ => keeps_done p _) fun _ => .ite (fun _ => ?_) fun _ => keeps_refused p _
      exact (keeps_thenDone (keeps_enableLane p l) []).andThen (keeps_dropLaneOff _ l)
  case laneDisable =>
    unfold cmdLaneDisable
    split
    next => exact keeps_refused p _
    next l _ =>
      refine Keeps.andThen ?_ (keeps_replyDone _ _) (s := holdsBroken)
      exact .ite (fun _ => keeps_disableLane p l) fun _ => .refl _ p
  case lanePurge =>
    unfold cmdLanePurge
    split
    next => exact keeps_refused p _
    next l _ => exact keeps_thenDone (keeps_lanePurge p l) _
  case headChannel =>
    unfold cmdHeadChannel
    split
    next h on _ _ => exact keeps_thenDone (keeps_setChannel p h on) _
    next => exact keeps_refused p _
  case hold =>
    unfold cmdHold
    split
    next => exact keeps_refused p _
    next h _ => exact keeps_thenDone (keeps_holdHead p h) _
  case resume =>
    unfold cmdResume
    split
    next => exact keeps_refused p _
    next h _ => exact keeps_thenDone (keeps_resumeHead p h) _
  case planWrite =>
    unfold cmdPlanWrite
    split
    next => exact keeps_thenDone (keeps_setPru_any p _) _
    next => exact keeps_refused p _
  case classWrite =>
    unfold cmdClassWrite
    split
    next => exact keeps_thenDone (keeps_setPru_any p _) _
    next => exact keeps_refused p _
  case windowRead =>
    unfold cmdWindowRead
    split
    next => exact keeps_done p _
    next => exact keeps_refused p _
  case alarmAck =>
    unfold cmdAlarmAck
    split
    next hq => exact keeps_thenDone (keeps_ackAlarm hq) _
    next => exact (keeps_refuseAck p).andThen (keeps_replyRefused _ _)
  case alarmList => exact .ite (fun _ => keeps_refused p _) fun _ => keeps_done p _
  case panelConfig =>
    unfold cmdPanelConfig
    dsimp only
    split
    next => exact .ite (fun _ => keeps_refused p _) fun _ => keeps_thenDone (keeps_configPanel p _ _ _ _) _
    next => exact keeps_refused p _
  case panelConfigLine =>
    unfold cmdPanelLine
    split
    next => exact keeps_refused p _
    next => exact .ite (fun _ => keeps_refused p _) fun _ => keeps_thenDone (keeps_configLine p _) _
  case pollWrite => exact .ite (fun _ => keeps_refused p _) fun _ => keeps_thenDone (keeps_writePoll p _) _
  case screenWrite =>
    unfold cmdScreenWrite
    split
    next => exact .ite (fun _ => keeps_refused p _) fun _ => keeps_thenDone (keeps_writeScreen p _ _ _) _
    next => exact keeps_refused p _
  case noticeSelect =>
    unfold cmdNoticeSelect
    split
    next v s u m w _ _ _ _ _ =>
      have selected : Keeps [.cu] p (setCu p { p.cu with select := ⟨v, s, u, m, w⟩ }) := keeps_setCu rfl
      exact keeps_thenDone selected _
    next => exact keeps_refused p _
  case countersRead =>
    unfold cmdCountersRead
    split
    next g _ _ _ =>
      refine Keeps.andThen ?_ (keeps_replyDone _ _) (s := worldBroken)
      exact .ite (fun _ => keeps_clearGroup p g) fun _ => .refl _ p
    next => exact keeps_refused p _
  case statusRead => exact keeps_done p _
  case restart => exact (keeps_thenDone (keeps_workRestart p) []).andThen (keeps_handInWrites 2 _)

/-! ## Requests (R164, R165) -/

/-- A consumed request: it keeps the laws of the world and pays for the reservation made for it, by its reply or by
waiting. -/
structure Settles (p q : Part) : Prop where
  keeps : Keeps (.owes :: worldBroken) p q
  pays : ∀ d, Owes (d + 1) p → Owes d q

theorem Settles.andThen {p q r : Part} (h : Settles p q) {s : List Law} (h' : Keeps s q r)
    (hs : s ⊆ worldBroken := by decide) : Settles p r where
  keeps := h.keeps.andThen h' (fun _ h => h) fun _ hx => List.mem_cons_of_mem _ (hs hx)
  pays d hp := (h' .owes (fun hx => absurd (hs hx) (by decide))) d (h.pays d hp)

theorem Settles.after {p q r : Part} {s : List Law} (h : Keeps s p q) (h' : Settles q r)
    (hs : s ⊆ worldBroken := by decide) : Settles p r where
  keeps := h.andThen h'.keeps (fun _ hx => List.mem_cons_of_mem _ (hs hx)) fun _ h => h
  pays d hp := h'.pays d ((h .owes (fun hx => absurd (hs hx) (by decide))) _ hp)

theorem settles_giveReply (p : Part) {k : Byte} (hk : k ≠ 0x12) (a : Ask) (pl : List Byte) :
    Settles p (giveReply p k a pl) where
  keeps := (keeps_giveReply p k a pl).mono
  pays _ h := owes_giveReply h hk a pl

theorem settles_denyAsk (p : Part) {k : Byte} (hk : k ≠ 0x12) (a : Ask) (r : AskReason) : Settles p (denyAsk p k a r) :=
  settles_giveReply p hk a _

theorem Settles.ite {c : Prop} [Decidable c] {p q r : Part} (h : c → Settles p q) (h' : ¬c → Settles p r) :
    Settles p (if c then q else r) := by
  split
  next hc => exact h hc
  next hc => exact h' hc

/-- An ask is deferred: its lane holds it, with nothing else moved. -/
theorem settles_modLane {p : Part} {l : Side} {f : Lane → Lane}
    (count : laneCount (f (p.st.lanes.get l)) = laneCount (p.st.lanes.get l))
    (preFree : PreFree (p.st.lanes.get l) → PreFree (f (p.st.lanes.get l)))
    (asks : laneAsks (f (p.st.lanes.get l)) = laneAsks (p.st.lanes.get l) + 1) : Settles p (modLane p l f) where
  keeps := by
    have any : Keeps [.st, .owes, .unitAsks, .pnc] p (modLane p l f) :=
      (keeps_modLane_any p l f).mend .ten fun h => tenRecords_set h l count preFree
    exact any.mono
  pays d h := by
    have held := heldRequests_modLane p l f
    obtain ⟨hr, ht, hn⟩ := h
    refine ⟨?_, ht, hn⟩
    show p.rp.reservations = _
    omega

theorem settles_feedAsk (p : Part) (a : Ask) (pl : List Byte) : Settles p (feedAsk p a pl) := by
  unfold feedAsk
  split
  next => exact settles_denyAsk p (by decide) a _
  next l _ =>
    refine .ite (fun _ => settles_denyAsk p (by decide) a _) fun hn => ?_
    have deferred : Settles p (modLane p l fun lane => { lane with feedAsk := some ⟨a, false⟩ }) :=
      settles_modLane rfl id (by simp at hn; simp [laneAsks, hn]; omega)
    exact deferred.andThen (keeps_mayEnter _ l)

theorem settles_moveAsk (p : Part) (a : Ask) (pl : List Byte) : Settles p (moveAsk p a pl) := by
  unfold moveAsk
  split
  next => exact settles_denyAsk p (by decide) a _
  next l _ =>
    refine .ite (fun _ => settles_denyAsk p (by decide) a _) fun hn => ?_
    have deferred : Settles p (modLane p l fun lane => { lane with moveAsk := some a }) :=
      settles_modLane rfl id (by simp at hn; simp [laneAsks, hn]; omega)
    exact deferred.andThen (keeps_examineMove _ l)

theorem keeps_abandonUnit_unitAsks (p : Part) (h : Side) : Law.unitAsks.Holds p (abandonUnit p h) :=
  keeps_abandonUnit p h .unitAsks (by decide)

theorem settles_decideUnit {p q : Part} {h : Side} {a : Ask} (hq : decideUnit p h a = some q) : Settles p q where
  keeps := (keeps_decideUnit hq).mono
  pays d ho := by
    obtain ⟨k, pl, hk, hrp, hasks⟩ := decideUnit_reply hq
    have asks : ∀ g, laneAsks (q.st.lanes.get g) = laneAsks (p.st.lanes.get g) := fun g => by
      obtain ⟨hf, hm, hu⟩ := hasks g
      simp only [laneAsks, hf, hm, hu]
    have hz : laneAsks q.st.lanes.zero = laneAsks p.st.lanes.zero := asks .zero
    have hone : laneAsks q.st.lanes.one = laneAsks p.st.lanes.one := asks .one
    have paid := owes_giveReply ho hk a pl
    have held : heldRequests q = heldRequests p := by simp only [heldRequests, hz, hone, decideUnit_cu hq]
    have heldReply : heldRequests (giveReply p k a pl) = heldRequests p := rfl
    rw [owes_iff_balance] at paid ⊢
    rw [held, ← heldReply]
    exact balance_of_rp paid hrp

theorem settles_unitAsk (p : Part) (h : Side) (a : Ask) (pl : List Byte) : Settles p (unitAsk p h a pl) := by
  refine .ite (fun _ => settles_denyAsk p (by decide) a _) fun _ =>
    .ite (fun _ => settles_denyAsk p (by decide) a _) fun hn => ?_
  have abandoned := keeps_abandonUnit p h
  have free : ((abandonUnit p h).st.lanes.get h).unitAsk = none :=
    keeps_abandonUnit_unitAsks p h h (by simpa using hn)
  refine Settles.after abandoned ?_
  dsimp only
  split
  next => exact settles_modLane rfl id (by simp [laneAsks, free])
  next q hq => exact settles_decideUnit hq

theorem keeps_intoPool (p : Part) : Keeps [.rp, .st, .ten, .ahu, .pnc] p (intoPool p) := by
  have pooled : Keeps [.st, .ten] p (setSt p { p.st with pool := p.st.pool + 1 }) := by
    intro k hk
    have same := k.refl p
    cases k with
    | st => simp at hk
    | ten => simp at hk
    | _ => exact same
  exact pooled.andThen (keeps_runArbiter _)

theorem settles_ejectAsk (p : Part) (a : Ask) (pl : List Byte) : Settles p (ejectAsk p a pl) := by
  unfold ejectAsk
  split
  next => exact settles_denyAsk p (by decide) a _
  next l _ =>
    split
    next => exact settles_denyAsk p (by decide) a _
    next s hs =>
      split
      next => exact (settles_denyAsk p (by decide) a _).andThen (keeps_raiseAlarm_quiet rfl _ _ _)
      next i _ =>
        let taken := modLane p l fun lane =>
          { lane with outMap := vset lane.outMap i (.filled s.number), exit := none }
        let noticed := offerStrip (giveReply taken 0x36 a [oneByte i.val]) (ejectedNotice l s i.val)
        let pooled := setSt noticed { noticed.st with pool := noticed.st.pool + 1 }
        have take : Keeps [.st, .ten, .pnc] p taken := by
          have any : Keeps [.st, .ten, .owes, .unitAsks, .pnc] p taken := keeps_modLane_any p l _
          have asks : Keeps [.st, .ten, .owes, .pnc] p taken := any.mend .unitAsks (unitAsks_modLane id)
          refine asks.mend .owes fun d h => ?_
          have held := heldRequests_modLane p l fun lane =>
            { lane with outMap := vset lane.outMap i (.filled s.number), exit := none }
          rw [owes_iff_balance] at h ⊢
          have same : heldRequests taken = heldRequests p := Nat.add_right_cancel held
          rw [same]
          exact balance_of_rp h rfl
        have notice : Keeps [.rp] (giveReply taken 0x36 a [oneByte i.val]) noticed := keeps_offerStrip _ _
        have pool : Keeps [.st, .ten] noticed pooled := by
          intro k hk
          have same := k.refl noticed
          cases k with
          | st => simp at hk
          | ten => simp at hk
          | _ => exact same
        have reply := keeps_giveReply taken 0x36 a [oneByte i.val]
        have any : Keeps [.rp, .st, .ten, .owes, .pnc] p pooled :=
          ((take.trans reply).trans (notice.trans pool)).mono
        have st : noticed.st = taken.st := notice .st (by simp)
        have ten : Keeps [.rp, .st, .owes, .pnc] p pooled := any.mend .ten fun ⟨sum, hz, ho⟩ => by
          cases l with
          | zero =>
            refine ⟨?_, ?_, ?_⟩
            · simp [pooled, st, taken, Two.set, Two.get, laneCount] at sum hs ⊢
              simp [hs] at sum
              omega
            · simpa [pooled, st, taken, Two.set, Two.get] using hz
            · simpa [pooled, st, taken, Two.set, Two.get] using ho
          | one =>
            refine ⟨?_, ?_, ?_⟩
            · simp [pooled, st, taken, Two.set, Two.get, laneCount] at sum hs ⊢
              simp [hs] at sum
              omega
            · simpa [pooled, st, taken, Two.set, Two.get] using hz
            · simpa [pooled, st, taken, Two.set, Two.get] using ho
        have settled : Settles p pooled :=
          { keeps := ten.mono
            pays := fun d h => pool .owes (by simp) d (notice .owes (by simp) d
              (owes_giveReply (take .owes (by simp) _ h) (by decide) a _)) }
        exact (settled.andThen (keeps_runArbiter _)).andThen (keeps_examineMove _ l)

theorem settles_workAsk (p : Part) (a : Ask) (pl : List Byte) : Settles p (workAsk p a pl) := by
  have marked : ∀ es, Keeps [.pru, .pulls] p (setPru p { p.pru with pulls := es }) := fun es =>
    keeps_setPru_pulls rfl rfl (fun _ h => h) rfl
  exact Settles.after (marked _) (settles_giveReply _ (by decide) a _)

theorem settles_takeCommand {p : Part} (h : p.cu.inProgress = none) (a : Ask) (pl : List Byte) :
    Settles p (takeCommand p a pl) := by
  let taken := setCu p { p.cu with inProgress := some ⟨a.station, a.tag, pl.getD 0 0⟩ }
  have take : Settles p taken :=
    { keeps := by
        intro k hk
        have same := k.refl p
        cases k with
        | cu => simp [worldBroken] at hk
        | owes => simp at hk
        | _ => exact same
      pays := fun d ⟨hr, ht, hn⟩ => by
        refine ⟨?_, ht, hn⟩
        simp only [heldRequests, h, taken, setCu_rp, setCu_st, setCu_cu, Option.toList_none, List.length_nil,
          Option.toList_some, List.length_singleton] at hr ⊢
        omega }
  unfold takeCommand
  dsimp only
  split
  next => exact take.andThen (keeps_replyRefused _ _)
  next => exact take.andThen (keeps_runRow _ _ _)

/-! ## Telemetry (R166) -/

/-- A context is changed but for its lookup, and is judged. -/
theorem keeps_changeAndJudge {f : Context → Context} (hf : ∀ c, (f c).lookup = c.lookup) (p : Part) (h : Side)
    (i : Fin 4) : Keeps issueBroken p (judgeAndIssue (modContext p h i f) h i) :=
  (keeps_modContext hf).andThen (keeps_judgeAndIssue _ h i)

theorem keeps_closeByOpen (p : Part) (h : Side) : Keeps issueBroken p (closeByOpen p h) := by
  unfold closeByOpen
  split
  next => exact .refl _ p
  next => exact keeps_changeAndJudge (fun _ => by rfl) p h _

theorem keeps_takeContext (p : Part) (h : Side) (i : Fin 4) (f : OpenFields) :
    Keeps worldBroken p (takeContext p h i f) :=
  ((((keeps_modActive p h _).trans (keeps_modChannel_any _ h _)).trans (keeps_startLookup _ _ _)).trans
    (keeps_modContext_any _ h i _)).mono

theorem keeps_overrun (p : Part) (h : Side) (wire : Nat) :
    Keeps [.rp, .bm, .st, .ahu, .pnc] p (overrun p h wire) :=
  (((keeps_countChannel p h _).trans (keeps_raiseAlarm_quiet rfl _ _ _)).trans (keeps_modActive _ h _)).mono

theorem keeps_bondOpen (p : Part) (h : Side) (pl : List Byte) : Keeps worldBroken p (bondOpen p h pl) := by
  refine .ite (fun _ => (keeps_countChannel p h _).mono) fun _ => .ite (fun _ => ?_) fun _ => ?_
  · exact (keeps_countChannel p h _).andThen (keeps_modActive _ h _)
  · have closed := keeps_closeByOpen p h
    dsimp only
    split
    next => exact closed.andThen (keeps_takeContext _ h _ _)
    next => exact closed.andThen (keeps_overrun _ h _)

theorem takeExpected_lookup (c : Context) (j : Nat) (x : Sample) : (takeExpected c j x).lookup = c.lookup := by
  unfold takeExpected
  split
  next => rfl
  next => rfl

theorem takeSample_lookup (c : Context) (j : Nat) (x : Sample) : (takeSample c j x).lookup = c.lookup := by
  unfold takeSample
  split
  next => rfl
  next =>
    split
    next => exact takeExpected_lookup _ j x
    next => exact takeExpected_lookup c j x

theorem takeBlock_lookup (xs : List Sample) (c : Context) (j : Nat) : (takeBlock c j xs).lookup = c.lookup := by
  induction xs generalizing c j with
  | nil => rfl
  | cons x xs ih => exact (ih _ _).trans (takeSample_lookup c j x)

theorem keeps_bondSamples (p : Part) (h : Side) (pl : List Byte) : Keeps [.bm] p (bondSamples p h pl) := by
  refine .ite (fun _ => keeps_countChannel p h _) fun _ => .ite (fun _ => .refl _ p) fun _ =>
    .ite (fun _ => keeps_countChannel p h _) fun _ => ?_
  split
  next => exact keeps_countChannel p h _
  next => exact keeps_modContext fun c => takeBlock_lookup _ c _

theorem keeps_strayClose (p : Part) (h : Side) (n : BitVec 16) : Keeps [.bm] p (strayClose p h n) := by
  unfold strayClose
  dsimp only
  split
  next => exact keeps_countChannel p h _
  next => exact (keeps_countChannel p h _).andThen (keeps_modContext fun _ => rfl)

theorem keeps_bondClose (p : Part) (h : Side) (pl : List Byte) : Keeps issueBroken p (bondClose p h pl) := by
  refine .ite (fun _ => (keeps_countChannel p h _).mono) fun _ => .ite (fun _ => .refl _ p) fun _ => ?_
  dsimp only
  split
  next => exact (keeps_strayClose p h _).mono
  next => exact keeps_changeAndJudge (fun _ => by rfl) p h _

theorem keeps_magEvent (p : Part) (pl : List Byte) : Keeps [.st, .pnc] p (magEvent p pl) := by
  have counted : ∀ c : Prop, [Decidable c] → Keeps [.st] p (if c then
      countStrips p fun c => { c with magIgnored := inc c.magIgnored } else p) := fun c _ =>
    .ite (fun _ => keeps_countStrips p _) fun _ => .refl _ p
  unfold magEvent
  dsimp only
  split
  next => exact (counted _).andThen (keeps_setInMap _ _)
  next => exact (counted _).andThen (keeps_modLane ⟨rfl, id, rfl, id⟩)

theorem keeps_freeElevator (p : Part) : Keeps [.rp, .st, .ahu, .pnc] p (freeElevator p) := by
  have freed : Keeps [.st] p (setSt p { p.st with elevator := .idle }) := keeps_setSt_rest rfl rfl rfl
  exact freed.andThen (keeps_runArbiter _)

/-- The strip at PULLING of a lane that has nothing at PRE comes to PRE. -/
theorem keeps_arrive {p : Part} {l : Side} {s x : Strip} (hs : (p.st.lanes.get l).pulling = some s) :
    Keeps [.st, .pnc] p (modLane p l fun lane => { lane with pulling := none, pre := some x }) := by
  have any : Keeps [.st, .ten, .owes, .unitAsks, .pnc] p
    (modLane p l fun lane => { lane with pulling := none, pre := some x }) := keeps_modLane_any p l _
  have asks : Keeps [.st, .ten, .owes, .pnc] p
    (modLane p l fun lane => { lane with pulling := none, pre := some x }) := any.mend .unitAsks (unitAsks_modLane id)
  have ten : Keeps [.st, .owes, .pnc] p (modLane p l fun lane => { lane with pulling := none, pre := some x }) :=
    asks.mend .ten fun ⟨sum, hz, ho⟩ => by
      have free : PreFree (p.st.lanes.get l) := by cases l; exacts [hz, ho]
      have pre : (p.st.lanes.get l).pre = none := free (by rw [hs]; rfl)
      exact tenRecords_set ⟨sum, hz, ho⟩ l (by simp [laneCount, hs, pre]) fun _ h => by cases h
  refine ten.mend .owes fun d h => ?_
  have held := heldRequests_modLane p l fun lane => { lane with pulling := none, pre := some x }
  rw [owes_iff_balance] at h ⊢
  rw [Nat.add_right_cancel held]
  exact balance_of_rp h rfl

end Sys2Proof.Machine
end

section
/-! PROOFS. Which laws the parcels, frames and events keep, and the invariants of every step (O6 to O12). -/

namespace Sys2Proof.Machine

-- One proof after another: every thread of a compile reserves its own stack.
set_option Elab.async false

/-! ## Strip events (R79, R82, R93) -/

theorem keeps_countUntracked (p : Part) (f : StripCounters → StripCounters) : Keeps worldBroken p (countStrips p f) :=
  (keeps_countStrips p f).mono

theorem keeps_stripArrived (p : Part) (pl : List Byte) : Keeps worldBroken p (stripArrived p pl) := by
  unfold stripArrived
  dsimp only
  split
  next => exact keeps_countUntracked p _
  next =>
    split
    next hs => exact (keeps_arrive hs).andThen (keeps_freeElevator _)
    next =>
      split
      next => exact (keeps_modRecord p _ _).andThen (keeps_freeElevator _)
      next => exact keeps_countUntracked p _

theorem keeps_stripRemoved (p : Part) (pl : List Byte) : Keeps worldBroken p (stripRemoved p pl) := by
  unfold stripRemoved
  dsimp only
  split
  next => exact keeps_countUntracked p _
  next i hi =>
    have removed : Keeps [.st] p
        (setSt p { p.st with purged := p.st.purged.eraseIdx i, pool := p.st.pool + 1 }) := by
      have hlt : i < p.st.purged.length := (List.findIdx?_eq_some_iff_findIdx_eq.1 hi).1
      refine keeps_setSt (fun ⟨sum, hz, ho⟩ => ⟨?_, hz, ho⟩) (fun _ => rfl) fun _ h => h
      simp only [List.length_eraseIdx_of_lt hlt]
      omega
    exact .ite (fun _ => removed.andThen (keeps_freeElevator _)) fun _ => removed.andThen (keeps_runArbiter _)

theorem keeps_pullResult (p : Part) (pl : List Byte) : Keeps worldBroken p (pullResult p pl) := by
  unfold pullResult
  split
  next => exact (keeps_countPulls p _).mono
  next =>
    split
    next => exact (keeps_setPru_any p _).andThen (keeps_pumpPulls _)
    next => exact (keeps_countPulls p _).mono

/-! ## Parcels (R160, R163 to R166) -/

theorem keeps_actTelemetry (k : Kind) (h : Option Side) (pl : List Byte) (p : Part) :
    Keeps worldBroken p (actTelemetry k h pl p) := by
  unfold actTelemetry
  split
  next => exact keeps_bondOpen p _ pl
  next => exact (keeps_bondSamples p _ pl).mono
  next => exact (keeps_bondClose p _ pl).mono
  next => exact (keeps_unitEnd p _ pl).mono
  next => exact (keeps_magEvent p pl).mono
  next => exact .ite (fun _ => keeps_stripArrived p pl) fun _ => keeps_stripRemoved p pl
  next => exact keeps_pullResult p pl
  all_goals exact .refl _ p

theorem keeps_snoop (p : Part) (k : Kind) (q : Parcel) : Keeps worldBroken p (snoop p k q) :=
  (keeps_countRing p _).andThen (keeps_actTelemetry k _ _ _)

/-- A request that its source's role fits goes to an operation, which settles it. -/
theorem settles_actRequest {p : Part} {k : Kind} {source : Byte} (hk : isRequest k = true) (hf : fits p k source = true)
    (hc : k = .command → p.cu.inProgress = none) (a : Ask) (pl : List Byte) :
    Settles p (actRequest k (headOf p source) a pl p) := by
  cases k <;> simp [isRequest] at hk
  case command => exact settles_takeCommand (hc rfl) a pl
  case unitAsk =>
    obtain ⟨h, hh⟩ := Option.isSome_iff_exists.1 hf
    rw [hh]
    exact settles_unitAsk p h a pl
  case feedAsk => exact settles_feedAsk p a pl
  case moveAsk => exact settles_moveAsk p a pl
  case ejectAsk => exact settles_ejectAsk p a pl
  case workAsk => exact settles_workAsk p a pl

/-- A reply place is reserved where there is one. -/
theorem owes_reserve {d : Nat} {p : Part} (h : Owes d p) (room : outboundTotal p < outboundPlaces) :
    Owes (d + 1) (reserve p) := by
  obtain ⟨hr, _, hn⟩ := h
  exact ⟨by show p.rp.reservations + 1 = heldRequests p + (d + 1); omega, room, hn⟩

theorem keeps_consume {p : Part} {k : Kind} {q : Parcel} (hk : isRequest k = true) (hf : fits p k q.source = true)
    (hc : canConsume p k = true) : Keeps worldBroken p (consume p k q) := by
  let counted := countRing (reserve p) fun c => { c with consumed := inc c.consumed }
  simp only [canConsume, Bool.and_eq_true, decide_eq_true_eq, Bool.or_eq_true, bne_iff_ne] at hc
  have idle : k = .command → counted.cu.inProgress = none := fun e =>
    Option.isNone_iff_eq_none.1 (hc.2.resolve_left fun h => h e)
  have settled : Settles counted (consume p k q) := settles_actRequest (p := counted) hk hf idle _ _
  have reserved : Keeps [.rp, .owes] p counted := by
    intro l hl
    have same := l.refl p
    cases l with
    | rp => simp at hl
    | owes => simp at hl
    | _ => exact same
  have any : Keeps (.owes :: worldBroken) p (consume p k q) :=
    reserved.andThen settled.keeps (by decide) fun _ h => h
  refine any.mend .owes (hs := fun _ h => h) fun d h => settled.pays d ?_
  exact (owes_setRp_iff rfl rfl (d + 1)).2 (owes_reserve h hc.1)

theorem keeps_countParcel (p : Part) (f : RingCounters → RingCounters) : Keeps worldBroken p (countRing p f) :=
  (keeps_countRing p f).mono

theorem keeps_handleParcel (p : Part) (q : Parcel) : Keeps worldBroken p (handleParcel p q).1 := by
  unfold handleParcel
  dsimp only
  split
  next => exact .refl _ p
  next =>
    split
    next => exact keeps_countParcel p _
    next =>
      split
      next => exact keeps_countParcel p _
      next =>
        split
        next hr =>
          simp only [Bool.and_eq_true] at hr
          split
          next hc => exact keeps_consume hr.1.1 hr.2 hc
          next => exact keeps_countParcel p _
        next =>
          split
          next => exact keeps_snoop p _ q
          next =>
            split
            next => exact keeps_countParcel p _
            next => exact .refl _ p

theorem keeps_walkParcels : ∀ (n : Nat) (p : Part) (bs : List Byte), Keeps worldBroken p (walkParcels n p bs).part
  | 0, p, _ => .refl _ p
  | n + 1, p, bs => by
    unfold walkParcels
    split
    next => exact .refl _ p
    next =>
      split
      next => exact keeps_countParcel p _
      next q _ => exact (keeps_handleParcel p q).andThen (keeps_walkParcels n _ _)

/-! ## Frames and the watchdog (R158, R169, R170) -/

/-- The laws that an arriving frame breaks. -/
def frameBroken : List Law := .link :: worldBroken

/-- A change of the ring port that keeps its station, its queued parcels and its reservations. -/
theorem keeps_setRp_link {p : Part} {x : RingPort} (station : x.station = p.rp.station)
    (outbound : x.outbound = p.rp.outbound) (reservations : x.reservations = p.rp.reservations) :
    Keeps [.rp, .link] p (setRp p x) := by
  intro l hl
  have same := l.refl p
  cases l with
  | rp => simp at hl
  | link => simp at hl
  | station => exact station
  | outbound =>
    show p.rp.outbound <+: x.outbound
    rw [outbound]
  | owes => exact fun d => (owes_setRp_iff outbound reservations d).2
  | _ => exact same

theorem keeps_setRing (p : Part) (up : Bool) : Keeps [.rp, .link, .pnc] p (setRing p up) := by
  refine (Keeps.tracked (s := [.rp, .link]) ?_).mono
  exact keeps_setRp_link rfl rfl rfl

theorem keeps_ringUp (p : Part) : Keeps frameBroken p (ringUp p) := by
  have running : Keeps [.rp, .link] p (setRp p { p.rp with watchdog := true, period := p.rp.timeout }) :=
    keeps_setRp_link rfl rfl rfl
  exact ((running.trans (keeps_setRing _ true)).trans (keeps_dropRingLost _)).mono

theorem keeps_forward (p : Part) (f : Frame) : Keeps [.rp] p (forward p f) :=
  keeps_setRp rfl ⟨rfl, rfl, rfl, rfl⟩ (List.prefix_refl _) fun d => (owes_setRp_iff rfl rfl d).2

theorem fitParcels_append (qs : List Parcel) (free : Nat) : (fitParcels free qs).1 ++ (fitParcels free qs).2 = qs := by
  induction qs generalizing free with
  | nil => rfl
  | cons q qs ih =>
    unfold fitParcels
    split
    next => exact congrArg (q :: ·) (ih _)
    next => rfl

/-- The parcels that stay queued are the last of the queue. -/
theorem keeps_insertParcels (p : Part) (f : Frame) (used : List Byte) :
    Keeps [.rp, .outbound] p (insertParcels p f used).1 := by
  intro l hl
  have same := l.refl p
  cases l with
  | rp => simp at hl
  | outbound => simp at hl
  | owes =>
    intro d ⟨hr, ht, hn⟩
    have rest : (insertParcels p f used).1.rp.outbound <:+ p.rp.outbound :=
      ⟨_, fitParcels_append p.rp.outbound (f.capacity.toNat - used.length)⟩
    exact ⟨hr, le_trans (Nat.add_le_add_right rest.length_le _) ht, le_trans (rest.sublist.countP_le) hn⟩
  | _ => exact same

theorem keeps_goodFrame (p : Part) (f : Frame) : Keeps frameBroken p (goodFrame p f) := by
  have started : Keeps [.rp, .link] (ringUp p) (setRp (ringUp p) { (ringUp p).rp with lastCycle := f.cycle }) :=
    keeps_setRp_link rfl rfl rfl
  have walked := (((keeps_ringUp p).trans started).trans (keeps_countRing _ _)).trans
    (keeps_walkParcels f.used.toNat (countRing (setRp (ringUp p) { (ringUp p).rp with lastCycle := f.cycle })
      fun c => { c with good := inc c.good }) (f.area.take f.used.toNat))
  unfold goodFrame
  dsimp only
  split
  next => exact (walked.trans (keeps_forward _ _)).mono
  next => exact ((walked.trans (keeps_insertParcels _ f _)).trans (keeps_forward _ _)).mono

theorem keeps_frameArrives (p : Part) (f : Frame) : Keeps frameBroken p (frameArrives p f) := by
  unfold frameArrives
  split
  next => exact (keeps_countRing p _).andThen (keeps_forward _ _)
  next => exact (keeps_countRing p _).andThen (keeps_forward _ _)
  next => exact keeps_goodFrame p f

theorem keeps_watchdogExpires (p : Part) : Keeps frameBroken p (watchdogExpires p) := by
  refine .ite (fun _ => ?_) fun _ => .refl _ p
  have stopped : ∀ q, Keeps [.rp, .link] q (setRp q { q.rp with watchdog := false }) := fun q =>
    keeps_setRp_link rfl rfl rfl
  exact ((((keeps_setRing p false).trans (keeps_addRingLost _)).trans (keeps_raiseAlarm _ .ringLost .ring none)).trans
    ((stopped _).trans (keeps_countRing _ _))).mono

/-! ## Time -/

theorem keeps_setTime (p : Part) (t : BitVec 32) : Keeps [.time] p (setTime p t) := by
  intro l hl
  have same := l.refl p
  cases l with
  | time => simp at hl
  | _ => exact same

theorem keeps_minuteEffects (p : Part) : Keeps pullsBroken p (minuteEffects p) := by
  have aged : ∀ es, Keeps [.pru, .pulls] p (setPru p { p.pru with pulls := es }) := fun es =>
    keeps_setPru_pulls rfl rfl (fun _ h => h) rfl
  exact (aged _).andThen (keeps_expireDue _ _)

/-- The laws that the passing of time breaks. -/
def timeBroken : List Law := .time :: pullsBroken

theorem keeps_minuteTick (p : Part) : Keeps timeBroken p (minuteTick p) :=
  (keeps_setTime p _).andThen (keeps_minuteEffects _)

theorem keeps_passMs (p : Part) : Keeps timeBroken p (passMs p) :=
  .ite (fun _ => (keeps_setTime p _).andThen (keeps_minuteEffects _)) fun _ => (keeps_setTime p _).mono

theorem keeps_pullExpiry (p : Part) : Keeps pullsBroken p (pullExpiry p) := by
  unfold pullExpiry expireOne
  split
  next => exact .refl _ p
  next e _ =>
    split
    next => exact .refl _ p
    next => exact keeps_expirePull p e false

/-! ## Events -/

/-- Every command but POWER_ON_RESET and MINUTE_TICK keeps the laws of the world but for the ring's link. -/
theorem keeps_exec {c : Instr} {s t : State} (hr : ∀ straps, c ≠ .powerOnReset straps) (hm : c ≠ .minuteTick)
    (h : exec c s = .next t) : Keeps frameBroken s.part t.part := by
  cases c with
  | powerOnReset straps => exact absurd rfl (hr straps)
  | minuteTick => exact absurd rfl hm
  | pullExpiry => cases h; exact (keeps_pullExpiry s.part).mono
  | frameArrival f => cases h; exact keeps_frameArrives s.part f
  | ringWatchdogExpiry => cases h; exact keeps_watchdogExpires s.part
  | accessComplete => cases h; exact (keeps_completeAccess s.part _).mono
  | accessTimeout => cases h; exact (keeps_timeoutAccess s.part).mono
  | messageSent => cases h; exact (keeps_messageSent s.part).mono
  | characterReceived c => cases h; exact (keeps_receiveChar s.part c).mono
  | replyWindowClose => cases h; exact (keeps_closeWindow s.part).mono
  | restEnd => cases h; exact (keeps_restEnds s.part).mono

/-- Every step from a part with a property keeps it, if the power-on values have it and it is the premise and the
conclusion of a law that events keep. -/
theorem step_keeps {l : Law} {P : Part → Prop} (hl : l ∉ .time :: frameBroken)
    (hP : ∀ p q, l.Holds p q → P p → P q) (hreset : ∀ straps p, P (resetEnds straps (resetAsserted p)))
    {s t : State} (hs : P s.part) (h : step s = .next t) : P t.part := by
  rcases step_cases s with ⟨-, e⟩ | ⟨c, cs, -, e⟩
  · rw [e] at h
    cases h
    exact hP _ _ ((keeps_passMs s.part).mono (u := .time :: frameBroken) (hs := by decide) l hl) hs
  · rw [e] at h
    by_cases hr : ∃ straps, c = .powerOnReset straps
    · obtain ⟨straps, rfl⟩ := hr
      cases h
      exact hreset straps s.part
    · by_cases hm : c = .minuteTick
      · subst hm
        cases h
        exact hP _ _ ((keeps_minuteTick s.part).mono (u := .time :: frameBroken) (hs := by decide) l hl) hs
      · have kept := keeps_exec (fun straps e => hr ⟨straps, e⟩) hm h
        exact hP _ _ (kept.mono (u := .time :: frameBroken) (hs := List.subset_cons_self ..) l hl) hs

/-! ## The invariants of every step -/

/-- An access that completes leaves the SRAM in its canonical form. -/
theorem accessWrites_wf {s : State} (h : Memory.wf s.sram) : Memory.wf (accessWrites s) := by
  unfold accessWrites
  split
  next => exact h
  next =>
    dsimp only
    split
    next => exact sramWriteAll_wf _ _ _ h
    next => exact h

/-- Settles O6: ACCESS_COMPLETE alone writes the SRAM, and a write keeps its form. -/
theorem everyStepKeepsTheSramForm : Obligations.EveryStepKeepsTheSramForm := by
  intro s t hs h
  rcases step_cases s with ⟨-, e⟩ | ⟨c, cs, -, e⟩
  · rw [e] at h
    cases h
    exact hs
  · rw [e] at h
    cases c
    case accessComplete =>
      cases h
      exact accessWrites_wf (s := { s with pending := cs }) hs
    all_goals
      cases h
      exact hs

/-- Settles O7: a raise adds an entry only where none has its kind and source, and no event breaks the law. -/
theorem everyStepKeepsAlarmsUnique : Obligations.EveryStepKeepsAlarmsUnique := fun _ _ hs h =>
  step_keeps (l := .unique) (P := fun p => AlarmsUnique p.ahu.alarms) (by decide) (fun _ _ hl hp => hl hp)
    (fun _ _ => List.Pairwise.nil) hs h

/-- Settles O8: every grant, move, eject, removal and purge moves a record from one place to another. -/
theorem everyStepKeepsTenStripRecords : Obligations.EveryStepKeepsTenStripRecords := fun _ _ hs h =>
  step_keeps (l := .ten) (P := fun p => TenRecords p.st) (by decide) (fun _ _ hl hp => hl hp)
    (fun _ _ => ⟨rfl, fun _ => rfl, fun _ => rfl⟩) hs h

/-- Settles O9: a consumed request makes one reservation and its reply gives it up. -/
theorem everyStepKeepsTheOutboundBound : Obligations.EveryStepKeepsTheOutboundBound := fun _ _ hs h =>
  (owes_zero_iff _).1 (step_keeps (l := .owes) (P := Owes 0) (by decide) (fun _ _ hl hp => hl 0 hp)
    (fun _ _ => ⟨rfl, Nat.zero_le _, Nat.zero_le _⟩) ((owes_zero_iff _).2 hs) h)

/-- Settles O10. -/
theorem resetMeetsTheInvariants : Obligations.ResetMeetsTheInvariants :=
  ⟨reset_sram_wf, List.Pairwise.nil, ⟨rfl, fun _ => rfl, fun _ => rfl⟩, ⟨rfl, Nat.zero_le _, Nat.zero_le _⟩⟩

/-- Settles O11: no event but POWER_ON_RESET breaks the law of the station number. -/
theorem onlyPowerOnResetChangesTheStation : Obligations.OnlyPowerOnResetChangesTheStation := by
  intro c s t hr h
  by_cases hm : c = .minuteTick
  · subst hm
    cases h
    exact keeps_minuteTick s.part .station (by decide)
  · exact keeps_exec hr hm h .station (by decide)

/-- Settles O12: no event but POWER_ON_RESET and the ticks breaks the law of part time. -/
theorem onlyTicksAndResetChangePartTime : Obligations.OnlyTicksAndResetChangePartTime :=
  fun _ _ _ hr hm h => keeps_exec hr hm h .time (by decide)

end Sys2Proof.Machine
end

section
/-! PROOFS. The machine: which command a step runs, that each completes, and the power-on values (O1 to O5). -/

namespace Sys2Proof.Machine

-- One proof after another: every thread of a compile reserves its own stack.
set_option Elab.async false

/-- Settles O1. -/
theorem stepRunsTheFrontCommand : Obligations.StepRunsTheFrontCommand := fun _ _ _ => rfl

theorem passMs_time (p : Part) : (passMs p).time = p.time + 1 := by
  unfold passMs
  dsimp only
  split
  next => exact keeps_minuteEffects _ .time (by decide)
  next => rfl

/-- Settles O2: what the tick may set off changes neither part time nor the blocks named. -/
theorem idleStepPassesOneMillisecond : Obligations.IdleStepPassesOneMillisecond := by
  intro s hs
  rcases step_cases s with ⟨-, e⟩ | ⟨c, cs, h, -⟩
  · have kept := keeps_passMs s.part
    exact ⟨_, e, passMs_time s.part, rfl, hs, kept .cu (by decide), kept .bm (by decide), kept .st (by decide),
      kept .station (by decide)⟩
  · rw [hs] at h
    cases h

/-- Settles O3: by the rows of the table of commands, ACCESS_COMPLETE alone with the SRAM. -/
theorem everyCommandCompletes : Obligations.EveryCommandCompletes := by
  intro c s
  cases c with
  | accessComplete => exact ⟨_, rfl, rfl, fun h => absurd rfl h⟩
  | _ => exact ⟨_, rfl, rfl, fun _ => rfl⟩

/-- Settles O4. -/
theorem powerOnResetLatchesTheStraps : Obligations.PowerOnResetLatchesTheStraps := by
  intro straps s
  refine ⟨_, rfl, rfl, rfl, rfl, fun h => ⟨?_, resetAsserted_holdLine s.part h⟩, rfl, rfl⟩
  cases h <;> rfl

@[simp] theorem replicate_get {α : Type} {n : Nat} (x : α) (i : Fin n) : (Vector.replicate n x).get i = x := by
  simp [Vector.get]

/-- The power-on values of a channel. -/
theorem reset_channel (h : Side) : State.reset.part.bm.channels.get h = {} := by
  cases h <;> rfl

theorem reset_lane (l : Side) : State.reset.part.st.lanes.get l = {} := by
  cases l <;> rfl

theorem reset_counters (g : CounterGroup) :
    groupCounters State.reset.part g = List.replicate (groupCounters State.reset.part g).length 0 := by
  cases g with
  | channel h => cases h <;> rfl
  | _ => rfl

/-- Settles O5: each field as its type gives it at power-on. -/
theorem powerOnValues : Obligations.PowerOnValues := by
  unfold Obligations.PowerOnValues
  dsimp only
  refine ⟨rfl, fun h => ?_, fun g => ?_, fun i => ?_, rfl, rfl, rfl, rfl, rfl, rfl, rfl, rfl, rfl, fun l => ?_, rfl,
    rfl, fun i => ?_, rfl, rfl, rfl, fun l => ⟨?_, ?_, fun c => ?_⟩, fun c => ?_, rfl, rfl, rfl, rfl, rfl, rfl,
    fun h => ?_, fun h => ?_, fun l => ?_, rfl, rfl, rfl, rfl, rfl, rfl, fun i => ?_, fun i => ?_, fun g l => ?_,
    fun i => ?_, rfl, rfl, rfl, rfl, rfl, rfl, rfl, rfl, rfl, fun g x hx => ?_⟩
  · rw [reset_channel]
    exact ⟨rfl, rfl, fun i => replicate_get none i, rfl, fun x => by cases x <;> rfl⟩
  · exact replicate_get _ g
  · exact replicate_get _ i
  · rw [reset_lane]
    exact ⟨rfl, rfl, rfl, rfl, rfl, fun i => replicate_get _ i⟩
  · exact replicate_get _ i
  · cases l <;> rfl
  · cases l <;> rfl
  · cases l <;> exact replicate_get _ c
  · exact replicate_get _ c
  · cases h <;> rfl
  · cases h <;> rfl
  · cases l <;> rfl
  · revert i; decide
  · exact replicate_get _ i
  · revert g l; decide
  · exact replicate_get _ i
  · rw [reset_counters g] at hx
    exact List.eq_of_mem_replicate hx

end Sys2Proof.Machine
end

section
/-! PROOFS. The alarm list and the hold sets (O22, O47, O48), and the ring's frames, parcels and outbound queue (O15,
O17 to O21). -/

namespace Sys2Proof.Machine

-- One proof after another: every thread of a compile reserves its own stack.
set_option Elab.async false

/-! ## Raises (R122, R123) -/

@[simp] theorem addReasons_counters (p : Part) (k : AlarmKind) (s : AlarmSource) :
    (addReasons p k s).ahu.counters = p.ahu.counters := by
  simp [addReasons]

/-- An optional entry whose kind and source a raise has is folded into, and otherwise a new one joins. -/
theorem raiseAlarm_ahu_of_new {p : Part} {k : AlarmKind} {s : AlarmSource}
    (h : ∀ a ∈ p.ahu.alarms, ¬(a.kind = k ∧ a.source = s)) (x : Option Subject) :
    (raiseAlarm p k s x).ahu.alarms = p.ahu.alarms ++ [⟨p.ahu.nextNumber, k, s, x, 1, p.time, p.time⟩] ∧
    (raiseAlarm p k s x).ahu.counters = { p.ahu.counters with raised := inc p.ahu.counters.raised } := by
  unfold raiseAlarm
  rw [(find?_sameAlarm_eq_none_iff ..).2 h]
  exact ⟨raiseNew_alarms p k s x, by simp [raiseNew, countAlarms]⟩

theorem raiseAlarm_ahu_of_mem {p : Part} {k : AlarmKind} {s : AlarmSource} {a : Alarm} (ha : a ∈ p.ahu.alarms)
    (hs : a.kind = k ∧ a.source = s) (x : Option Subject) :
    (raiseAlarm p k s x).ahu.alarms = p.ahu.alarms.map (foldIn k s p.time x) ∧
    (raiseAlarm p k s x).ahu.nextNumber = p.ahu.nextNumber ∧
    (raiseAlarm p k s x).ahu.counters = { p.ahu.counters with coalesced := inc p.ahu.counters.coalesced } := by
  have found : (p.ahu.alarms.find? (sameAlarm k s)).isSome = true :=
    List.find?_isSome.2 ⟨a, ha, (sameAlarm_iff k s a).2 hs⟩
  obtain ⟨b, hb⟩ := Option.isSome_iff_exists.1 found
  unfold raiseAlarm
  rw [hb]
  exact ⟨raiseAgain_alarms p k s x b, by simp [raiseAgain, countAlarms], by simp [raiseAgain, countAlarms]⟩

/-- After a raise an entry of its kind, source and subject is in the list. -/
theorem exists_raised (p : Part) (k : AlarmKind) (s : AlarmSource) (x : Option Subject) :
    ∃ a ∈ (raiseAlarm p k s x).ahu.alarms, a.kind = k ∧ a.source = s ∧ a.subject = x := by
  by_cases h : ∀ a ∈ p.ahu.alarms, ¬(a.kind = k ∧ a.source = s)
  · rw [(raiseAlarm_ahu_of_new h x).1]
    exact ⟨_, List.mem_append_right _ (.head _), rfl, rfl, rfl⟩
  · simp only [not_forall, not_not] at h
    obtain ⟨a, ha, hs⟩ := h
    rw [(raiseAlarm_ahu_of_mem ha hs x).1]
    refine ⟨foldIn k s p.time x a, List.mem_map_of_mem ha, ?_⟩
    rw [foldIn, if_pos ((sameAlarm_iff k s a).2 hs)]
    exact ⟨hs.1, hs.2, rfl⟩

theorem foldIn_eq_of_count_le {a : Alarm} (h : a.count ≤ 255) (k : AlarmKind) (s : AlarmSource) (now : BitVec 32)
    (x : Option Subject) : foldIn k s now x a = if a.kind = k ∧ a.source = s then
      { a with count := min 255 (a.count + 1), subject := x, lastRaised := now } else a := by
  have count : incTo 255 a.count = min 255 (a.count + 1) := by
    unfold incTo
    split <;> omega
  simp only [foldIn, sameAlarm_iff, coalesced, count]

/-- Settles O47: by whether an entry has the kind and source. -/
theorem raiseAddsOrCoalesces : Obligations.RaiseAddsOrCoalesces := by
  intro p k s x hc
  refine ⟨fun h => raiseAlarm_ahu_of_new h x, fun ⟨a, ha, hs⟩ => ?_, ?_⟩
  · obtain ⟨alarms, number, counters⟩ := raiseAlarm_ahu_of_mem ha hs x
    refine ⟨alarms.trans (List.map_congr_left fun b hb => foldIn_eq_of_count_le (hc b hb) k s p.time x), number,
      counters⟩
  · by_cases h : ∀ a ∈ p.ahu.alarms, ¬(a.kind = k ∧ a.source = s)
    · rw [(raiseAlarm_ahu_of_new h x).1]
      intro a ha
      rcases List.mem_append.1 ha with ha | ha
      · exact hc a ha
      · rw [List.mem_singleton.1 ha]
        exact Nat.le_of_ble_eq_true rfl
    · simp only [not_forall, not_not] at h
      obtain ⟨b, hb, hs⟩ := h
      rw [(raiseAlarm_ahu_of_mem hb hs x).1]
      intro a ha
      obtain ⟨c, hcm, rfl⟩ := List.mem_map.1 ha
      rw [foldIn_eq_of_count_le (hc c hcm)]
      split
      next => exact Nat.min_le_left ..
      next => exact hc c hcm

/-! ## The loss of the ring (R170) -/

theorem addRingLost_heads (p : Part) (h : Side) :
    (addRingLost p).ahu.heads.get h = { p.ahu.heads.get h with ringLost := true } := by
  cases h <;> simp [addRingLost, Two.set, Two.get]

theorem offerNotice_losses (p : Part) (k : Nat) (x : List Byte) :
    (offerNotice p k x).rp.counters.losses = p.rp.counters.losses := by
  unfold offerNotice
  dsimp only
  split <;> rfl

theorem offerAlarm_losses (p : Part) (x : AlarmAction) (a : Alarm) :
    (offerAlarm p x a).rp.counters.losses = p.rp.counters.losses := by
  unfold offerAlarm offerIf
  split
  next => exact offerNotice_losses ..
  next => rfl

theorem raiseAlarm_losses (p : Part) (k : AlarmKind) (s : AlarmSource) (x : Option Subject) :
    (raiseAlarm p k s x).rp.counters.losses = p.rp.counters.losses := by
  unfold raiseAlarm
  split
  next => simp [raiseNew, offerAlarm_losses, countAlarms]
  next => simp [raiseAgain, offerAlarm_losses, countAlarms]

/-- The head sets after a declared loss. -/
theorem ringLoss_heads (p : Part) (h : Side) :
    (ringLoss p).ahu.heads.get h = { p.ahu.heads.get h with ringLost := true } := by
  have quiet : (ringLoss p).ahu.heads = (addRingLost (setRing p false)).ahu.heads :=
    keeps_raiseAlarm_quiet rfl (addRingLost (setRing p false)) .ring none .heads (by decide)
  rw [quiet, addRingLost_heads]
  rfl

/-- The laws that the loss of the ring breaks. -/
def lossBroken : List Law := [.rp, .link, .ahu, .heads, .pnc]

theorem keeps_ringLoss (p : Part) : Keeps lossBroken p (ringLoss p) := by
  have stopped : ∀ q, Keeps [.rp, .link] q (setRp q { q.rp with watchdog := false }) := fun q =>
    keeps_setRp_link rfl rfl rfl
  exact ((((keeps_setRing p false).trans (keeps_addRingLost _)).trans
    (keeps_raiseAlarm_quiet rfl _ .ring none)).trans ((stopped _).trans (keeps_countRing _ _))).mono

theorem ringLoss_up (p : Part) : (ringLoss p).rp.up = false := by
  have kept : Keeps [.rp, .ahu, .heads, .pnc] (setRing p false)
      (raiseAlarm (addRingLost (setRing p false)) .ringLost .ring none) :=
    (keeps_addRingLost _).andThen (keeps_raiseAlarm_quiet rfl _ .ring none)
  obtain ⟨up, -⟩ := kept .link (by decide)
  exact up

/-- Settles O22. -/
theorem watchdogExpiryDeclaresTheLoss : Obligations.WatchdogExpiryDeclaresTheLoss := by
  intro s
  refine ⟨fun hw => ?_, fun hw => ?_⟩
  · have expired : watchdogExpires s.part = ringLoss s.part := if_pos hw
    have kept := keeps_ringLoss s.part
    refine ⟨{ s with part := ringLoss s.part }, by rw [← expired]; rfl, ringLoss_up s.part, rfl, ?_,
      ringLoss_heads s.part, fun h => ?_, kept .feeders (by decide), exists_raised _ _ _ _, kept .time (by decide),
      kept .cu (by decide), kept .bm (by decide), kept .map (by decide), kept .store (by decide),
      kept .st (by decide), kept .pru (by decide), rfl, rfl⟩
    · exact congrArg inc (raiseAlarm_losses _ _ _ _)
    · unfold holdLine headHeld
      rw [ringLoss_heads]
      simp [headSetHeld]
  · have still : watchdogExpires s.part = s.part := if_neg (by rw [hw]; decide)
    show Host.Outcome.next { s with part := watchdogExpires s.part } = _
    rw [still]

/-! ## Acknowledgement (R124) -/

theorem examineUnitAsk_ahu (p : Part) (h : Side) : (examineUnitAsk p h).ahu = p.ahu :=
  keeps_examineUnitAsk p h .ahu (by decide)

/-- With no feed ask deferred no lane enters arbitration. -/
theorem mayEnter_of_no_feedAsk {p : Part} {l : Side} (h : (p.st.lanes.get l).feedAsk = none) : mayEnter p l = p := by
  unfold mayEnter inArbitration
  simp [h]

theorem examineUnitAsk_feedAsk (p : Part) (h g : Side) :
    ((examineUnitAsk p h).st.lanes.get g).feedAsk = (p.st.lanes.get g).feedAsk := by
  unfold examineUnitAsk
  split
  next => rfl
  next =>
    split
    next => rfl
    next q hq =>
      obtain ⟨k, pl, -, -, asks⟩ := decideUnit_reply hq
      rw [← (asks g).1, setUnitAsk, modLane_st, Two.get_set_eq_ite]
      split
      next e => rw [e]
      next => rfl

/-- With no feed ask deferred the sets that empty set off unit asks alone. -/
theorem keeps_actOnEmptied_of_no_feedAsk (before : Part) {p : Part} (hz : (p.st.lanes.get .zero).feedAsk = none)
    (ho : (p.st.lanes.get .one).feedAsk = none) : Keeps [.rp, .st, .pnc] p (actOnEmptied before p) := by
  let a := if headHeld before .zero && !headHeld p .zero then examineUnitAsk p .zero else p
  let b := if headHeld before .one && !headHeld a .one then examineUnitAsk a .one else a
  have units : Keeps [.rp, .st, .pnc] p b := by
    have first : Keeps [.rp, .st, .pnc] p a := .ite (fun _ => keeps_examineUnitAsk p .zero) fun _ => .refl _ p
    exact first.andThen (t := [.rp, .st, .pnc]) (.ite (fun _ => keeps_examineUnitAsk a .one) fun _ => .refl _ a)
  have asks : ∀ g, (b.st.lanes.get g).feedAsk = (p.st.lanes.get g).feedAsk := by
    intro g
    have hb : (b.st.lanes.get g).feedAsk = (a.st.lanes.get g).feedAsk := by
      by_cases hc : (headHeld before .one && !headHeld a .one) = true
      · simp only [b, if_pos hc, examineUnitAsk_feedAsk]
      · simp only [b, if_neg hc]
    have ha : (a.st.lanes.get g).feedAsk = (p.st.lanes.get g).feedAsk := by
      by_cases hc : (headHeld before .zero && !headHeld p .zero) = true
      · simp only [a, if_pos hc, examineUnitAsk_feedAsk]
      · simp only [a, if_neg hc]
    exact hb.trans ha
  have zero : mayEnter b .zero = b := mayEnter_of_no_feedAsk ((asks .zero).trans hz)
  have one : mayEnter b .one = b := mayEnter_of_no_feedAsk ((asks .one).trans ho)
  have same : actOnEmptied before p = b := by
    show (let c := if feederHeld before .zero && !feederHeld b .zero then mayEnter b .zero else b
      if feederHeld before .one && !feederHeld c .one then mayEnter c .one else c) = b
    simp only [zero, ite_self, one]
  rw [same]
  exact units

theorem dropReasons_heads (p : Part) (k : AlarmKind) (s : AlarmSource) (h : Side) :
    (dropReasons p k s).ahu.heads.get h = dropHeadReason k s h (p.ahu.heads.get h) := by
  cases h <;> simp [dropReasons, Two.set, Two.get]

theorem dropReasons_feeders (p : Part) (k : AlarmKind) (s : AlarmSource) (l : Side) :
    (dropReasons p k s).ahu.feeders.get l = dropFeederReason k s l (p.ahu.feeders.get l) := by
  cases l <;> simp [dropReasons, Two.set, Two.get]

theorem dropReasons_alarms (p : Part) (k : AlarmKind) (s : AlarmSource) :
    (dropReasons p k s).ahu.alarms = p.ahu.alarms := by
  simp [dropReasons]

theorem emptyWindowsOf_ahu (p : Part) (a : Alarm) : (emptyWindowsOf p a).ahu = p.ahu :=
  keeps_emptyWindowsOf p a .ahu (by decide)

theorem ackAlarm_of_find {p : Part} {n : BitVec 16} {a : Alarm}
    (h : p.ahu.alarms.find? (fun a => a.number == n) = some a) :
    ackAlarm p n = some (actOnEmptied p
      (offerAlarm (emptyWindowsOf (dropReasons (takeOutAlarm p a) a.kind a.source) a) .acknowledged a)) := by
  unfold ackAlarm
  rw [h]
  rfl

/-- Settles O48. -/
theorem acknowledgementReleasesItsHold : Obligations.AcknowledgementReleasesItsHold := by
  intro p n
  refine ⟨fun h => ?_, fun a ha hz ho => ⟨_, ackAlarm_of_find ha, ?_⟩⟩
  · unfold ackAlarm
    rw [List.find?_eq_none.2 fun a ha => by simpa using h a ha]
  · let dropped := dropReasons (takeOutAlarm p a) a.kind a.source
    let noticed := offerAlarm (emptyWindowsOf dropped a) .acknowledged a
    have before : Keeps holdsBroken p dropped := (keeps_takeOutAlarm p a).andThen (keeps_dropReasons _ _ _)
    have notice : Keeps [.rp, .pru, .pnc] dropped noticed :=
      (keeps_emptyWindowsOf dropped a).andThen (keeps_offerAlarm _ _ a)
    have st : noticed.st = p.st := by
      have taken : dropped.st = p.st := by simp [dropped, dropReasons]
      exact (notice .st (by decide)).trans taken
    have acted : Keeps [.rp, .st, .pnc] noticed (actOnEmptied p noticed) :=
      keeps_actOnEmptied_of_no_feedAsk p (by rw [st]; exact hz) (by rw [st]; exact ho)
    have after : Keeps [.rp, .st, .pru, .pnc] dropped (actOnEmptied p noticed) := notice.andThen acted
    have whole : Keeps holdsBroken p (actOnEmptied p noticed) := before.andThen after
    have ahu : (actOnEmptied p noticed).ahu = dropped.ahu := after .ahu (by decide)
    have heads : (takeOutAlarm p a).ahu.heads = p.ahu.heads := keeps_takeOutAlarm p a .heads (by decide)
    have feeders : (takeOutAlarm p a).ahu.feeders = p.ahu.feeders := keeps_takeOutAlarm p a .feeders (by decide)
    have number : a.number = n := by simpa using List.find?_some ha
    refine ⟨?_, fun h => ?_, fun l => ?_, whole .time (by decide), whole .bm (by decide), whole .store (by decide),
      whole .cu (by decide)⟩
    · show (actOnEmptied p noticed).ahu.alarms = _
      rw [ahu, dropReasons_alarms, takeOutAlarm_alarms, number]
    · show (actOnEmptied p noticed).ahu.heads.get h = _
      rw [ahu, dropReasons_heads, heads]
    · show (actOnEmptied p noticed).ahu.feeders.get l = _
      rw [ahu, dropReasons_feeders, feeders]

/-! ## Frames (R158, R159, R184) -/

theorem checkPasses_sealFrame {f : Frame} (h : f.wf) : checkPasses (sealFrame f) = true := by
  have length : (sealFrame f).area.length = (sealFrame f).capacity.toNat := h
  have check : (sealFrame f).check = frameCheck (sealFrame f) := rfl
  simp only [checkPasses, length, check, beq_self_eq_true, Bool.and_self]

theorem sealFrame_of_checkPasses {f : Frame} (h : checkPasses f = true) : sealFrame f = f := by
  simp only [checkPasses, Bool.and_eq_true, beq_iff_eq] at h
  rw [sealFrame, ← h.2]

/-- Settles O15: by the class of the frame. -/
theorem badFramesAreNotActedOn : Obligations.BadFramesAreNotActedOn := by
  intro f s
  refine ⟨fun h => ?_, fun h => ?_, fun h => ⟨checkPasses_sealFrame h, ?_, rfl⟩, sealFrame_of_checkPasses⟩
  · have arrives : frameArrives s.part f = damagedFrame s.part f := by rw [frameArrives, h]
    show Host.Outcome.next { s with part := frameArrives s.part f } = _
    rw [arrives]
    rfl
  · have arrives : frameArrives s.part f = malformedFrame s.part f := by rw [frameArrives, h]
    show Host.Outcome.next { s with part := frameArrives s.part f } = _
    rw [arrives]
    rfl
  · simp [damagedMark, sealFrame, markDamaged]

/-! ## The walk (R160) -/

theorem byteAt_parcelBytes {q : Parcel} (h : q.payload.length ≤ 240) (rest : List Byte) :
    byteAt (parcelBytes q ++ rest) 4 = q.payload.length := by
  show (BitVec.ofNat 8 q.payload.length).toNat = q.payload.length
  rw [BitVec.toNat_ofNat]
  omega

theorem parcelBytes_length (q : Parcel) : (parcelBytes q).length = parcelLength q := by
  simp [parcelBytes, parcelLength, parcelHeaderLength]
  omega

theorem readParcel_parcelBytes {q : Parcel} (h : q.payload.length ≤ 240) (rest : List Byte) :
    readParcel (parcelBytes q ++ rest) = some q := by
  unfold readParcel
  rw [byteAt_parcelBytes h]
  have room : ¬(maxPayload < q.payload.length ∨
      (parcelBytes q ++ rest).length < parcelHeaderLength + q.payload.length) := by
    rw [List.length_append, parcelBytes_length]
    simp only [maxPayload, parcelLength]
    omega
  simp only [if_neg room]
  simp [parcelBytes, parcelHeaderLength]

theorem drop_parcelBytes (q : Parcel) (rest : List Byte) : (parcelBytes q ++ rest).drop (parcelLength q) = rest := by
  rw [← parcelBytes_length, List.drop_left]

/-- The walk stops at a header that it cannot follow. -/
theorem walkParcels_of_stop {p : Part} {bs : List Byte} (hne : bs ≠ []) (h : readParcel bs = none) (k : Nat) :
    walkParcels (k + 1) p bs =
      ⟨countRing p fun c => { c with malformedFrames := inc c.malformedFrames }, bs, true⟩ := by
  unfold walkParcels
  rw [if_neg (by simpa using hne), h]

/-- The walk hands a parcel over and goes on behind it. -/
theorem walkParcels_of_read {p : Part} {bs : List Byte} {q : Parcel} (hne : bs ≠ []) (h : readParcel bs = some q)
    (k : Nat) : walkParcels (k + 1) p bs =
      ⟨(walkParcels k (handleParcel p q).1 (bs.drop (parcelLength q))).part,
        forwardedBytes (ownStation p) q (handleParcel p q).2 ++
          (walkParcels k (handleParcel p q).1 (bs.drop (parcelLength q))).bytes,
        (walkParcels k (handleParcel p q).1 (bs.drop (parcelLength q))).stopped⟩ := by
  conv_lhs => unfold walkParcels
  rw [if_neg (by simpa using hne), h]

/-- Settles O17. -/
theorem walkReadsBackAParcel : Obligations.WalkReadsBackAParcel := by
  refine ⟨fun k p bs hne h => walkParcels_of_stop hne (if_pos h) k, fun q rest h =>
    ⟨readParcel_parcelBytes h rest, drop_parcelBytes q rest, fun k p => ?_⟩⟩
  have ne : parcelBytes q ++ rest ≠ [] := by simp [parcelBytes]
  rw [walkParcels_of_read ne (readParcel_parcelBytes h rest) k, drop_parcelBytes]
  rfl

theorem length_forwardedBytes (own : Byte) (q : Parcel) (filler : Bool) :
    (forwardedBytes own q filler).length = parcelLength q := by
  unfold forwardedBytes
  split
  next => simp [fillerBytes, parcelBytes_length, parcelLength]
  next => exact parcelBytes_length q

/-- A parcel that is read lies in the bytes. -/
theorem parcelLength_le_of_readParcel {bs : List Byte} {q : Parcel} (h : readParcel bs = some q) :
    parcelLength q ≤ bs.length := by
  unfold readParcel at h
  dsimp only at h
  split at h
  next => cases h
  next hn =>
    cases h
    simp only [parcelLength, List.length_take, List.length_drop]
    omega

/-- Settles O18, by induction on the parcels that the walk may take. -/
theorem walkKeepsTheUsedLength : Obligations.WalkKeepsTheUsedLength := by
  intro k
  induction k with
  | zero => exact fun _ _ => rfl
  | succ k ih =>
    intro p bs
    by_cases hne : bs = []
    · subst hne
      rfl
    · cases h : readParcel bs with
      | none => rw [walkParcels_of_stop hne h]
      | some q =>
        rw [walkParcels_of_read hne h, List.length_append, length_forwardedBytes, ih, List.length_drop]
        have := parcelLength_le_of_readParcel h
        omega

/-! ## Insertion, replies and notices (R165, R168, R169) -/

/-- Settles O20, by induction on the queue. -/
theorem insertionTakesTheOldestThatFit : Obligations.InsertionTakesTheOldestThatFit := by
  intro free qs
  refine ⟨fitParcels_append qs free, ?_⟩
  induction qs generalizing free with
  | nil => exact ⟨Nat.zero_le _, fun _ _ h => by cases h⟩
  | cons x xs ih =>
    unfold fitParcels
    split
    next hx =>
      obtain ⟨fits, stops⟩ := ih (free - parcelLength x)
      refine ⟨?_, fun q rest h => ?_⟩
      · simp only [List.map_cons, List.sum_cons]
        omega
      · have := stops q rest h
        simp only [List.map_cons, List.sum_cons]
        omega
    next hx =>
      refine ⟨Nat.zero_le _, fun q rest h => ?_⟩
      cases h
      simpa using hx

/-- Settles O21: by whether the notice finds a place. -/
theorem repliesAndNoticesAreQueued : Obligations.RepliesAndNoticesAreQueued := by
  intro p
  refine ⟨fun kind a pl hr hl => ⟨?_, ?_, outboundTotal_giveReply hr kind a pl⟩, fun k x => ?_⟩
  · have sent : sentPayload pl = pl := if_pos hl
    rw [giveReply_outbound, sent]
  · rw [giveReply_reservations]
    omega
  · have places : noticePlaces = 24 ∧ outboundPlaces = 32 := ⟨rfl, rfl⟩
    rcases offerNotice_cases p k x with ⟨hn, ht, e⟩ | ⟨hfull, e⟩
    · rw [e]
      refine ⟨rfl, fun _ => ⟨rfl, rfl⟩, fun h => ?_⟩
      omega
    · rw [e]
      refine ⟨rfl, fun h => absurd h hfull, fun _ => ⟨rfl, rfl⟩⟩

end Sys2Proof.Machine
end

section
/-! PROOFS. What each parcel meets (O19), the accesses and records of the store (O23, O25, O26, O28 to O30, O40). -/

namespace Sys2Proof.Machine

-- One proof after another: every thread of a compile reserves its own stack.
set_option Elab.async false

/-! ## Parcels (R160, R163 to R166) -/

/-- What `handleParcel` asks first of any parcel is answered: it is not EMPTY, its length fits, its source is a
station's, and not the part's own. -/
structure Handled (p : Part) (q : Parcel) : Prop where
  kind : kindOf q.kind ≠ .empty
  length : lengthFits (kindOf q.kind) q.payload = true
  source : q.source ≠ 31
  other : q.source ≠ ownStation p

theorem Handled.well {p : Part} {q : Parcel} (h : Handled p q) :
    ¬(!lengthFits (kindOf q.kind) q.payload || q.source == 31) = true := by
  simp only [h.length, Bool.not_true, Bool.false_or, beq_iff_eq]
  exact h.source

/-- A request to the part from a fitting role is consumed where there is room. -/
theorem handleParcel_request {p : Part} {q : Parcel} (h : Handled p q) (hr : isRequest (kindOf q.kind) = true)
    (hd : q.dest = ownStation p) (hf : fits p (kindOf q.kind) q.source = true) :
    handleParcel p q = if canConsume p (kindOf q.kind) then (consume p (kindOf q.kind) q, true)
      else (countRing p fun c => { c with notConsumed := inc c.notConsumed }, false) := by
  unfold handleParcel
  dsimp only
  rw [if_neg h.kind, if_neg h.well, if_neg h.other, if_pos (by simp [hr, hd, hf])]

/-- Telemetry from a fitting role is snooped. -/
theorem handleParcel_telemetry {p : Part} {q : Parcel} (h : Handled p q) (ht : isTelemetry (kindOf q.kind) = true)
    (hf : fits p (kindOf q.kind) q.source = true) : handleParcel p q = (snoop p (kindOf q.kind) q, false) := by
  have hr : isRequest (kindOf q.kind) = false := by
    generalize kindOf q.kind = k at ht
    cases k <;> first | rfl | cases ht
  unfold handleParcel
  dsimp only
  rw [if_neg h.kind, if_neg h.well, if_neg h.other, if_neg (by simp [hr]), if_pos (by simp [ht, hf])]

/-- Anything else is passed. -/
theorem handleParcel_passed {p : Part} {q : Parcel} (h : Handled p q)
    (hr : ¬(isRequest (kindOf q.kind) = true ∧ q.dest = ownStation p ∧ fits p (kindOf q.kind) q.source = true))
    (ht : ¬(isTelemetry (kindOf q.kind) = true ∧ fits p (kindOf q.kind) q.source = true)) :
    handleParcel p q = if countsIgnored p (kindOf q.kind) q then
      (countRing p fun c => { c with ignored := inc c.ignored }, false) else (p, false) := by
  unfold handleParcel
  dsimp only
  rw [if_neg h.kind, if_neg h.well, if_neg h.other, if_neg (by simpa [and_assoc] using hr),
    if_neg (by simpa using ht)]

theorem headOf_of_role {p : Part} {source : Byte} {h : Side} (hr : roleOf p source = some (.headBoard h)) :
    headOf p source = some h := by
  rw [headOf, hr]

/-- Settles O19: by the first test that a parcel fails. -/
theorem ownAndUnconsumedParcels : Obligations.OwnAndUnconsumedParcels := by
  refine ⟨fun p q h => if_pos h, fun p q hk h => ?_, fun p q hk hl hs => ⟨fun ho => ?_, ?_, ?_, ?_, ?_⟩⟩
  · unfold handleParcel
    dsimp only
    rw [if_neg hk, if_pos]
    · rfl
    · rcases h with h | h <;> simp [h]
  · unfold handleParcel
    dsimp only
    rw [if_neg hk, if_neg (by simp only [hl, Bool.not_true, Bool.false_or, beq_iff_eq]; exact hs),
      if_pos ho]
    rfl
  · intro ho hr hd hf hfull
    have full : ¬canConsume p (kindOf q.kind) = true := by
      unfold canConsume
      rcases hfull with hfull | ⟨hc, hbusy⟩
      · have none : ¬outboundTotal p < outboundPlaces := Nat.not_lt.2 hfull
        simp [none]
      · simp [hc, Option.isNone_iff_eq_none, hbusy]
    rw [handleParcel_request ⟨hk, hl, hs, ho⟩ hr hd hf, if_neg full]
    rfl
  · intro ho hd hroom
    have consumed : ∀ k, kindOf q.kind = k → isRequest k = true → fits p k q.source = true →
        (k = .command → p.cu.inProgress = none) → handleParcel p q = (consume p k q, true) := by
      intro k e hr hf hc
      subst e
      have can : canConsume p (kindOf q.kind) = true := by
        have room : outboundTotal p < outboundPlaces := hroom
        by_cases hcmd : kindOf q.kind = .command
        · simp [canConsume, room, hc hcmd]
        · simp [canConsume, room, hcmd]
      rw [handleParcel_request ⟨hk, hl, hs, ho⟩ hr hd hf, if_pos can]
    have kind : ∀ {b : Byte} {k}, q.kind = b → kindOf b = k → kindOf q.kind = k := fun e e' => e ▸ e'
    refine ⟨fun e hz hn => ?_, fun h e hr => ?_, fun e hr => ?_, fun e hr => ?_, fun e hr => ?_, fun e hr => ?_⟩
    · rw [consumed .command (kind e rfl) rfl (by simp [fits, hz]) fun _ => hn]
      rfl
    · rw [consumed .unitAsk (kind e rfl) rfl (by simp [fits, headOf_of_role hr]) fun h => by cases h]
      have head : headOf (countRing (reserve p) fun c => { c with consumed := inc c.consumed }) q.source = some h :=
        headOf_of_role hr
      simp only [consume, head]
      rfl
    · rw [consumed .feedAsk (kind e rfl) rfl (by simp [fits, hr]) fun h => by cases h]
      rfl
    · rw [consumed .moveAsk (kind e rfl) rfl (by simp [fits, hr]) fun h => by cases h]
      rfl
    · rw [consumed .ejectAsk (kind e rfl) rfl (by simp [fits, hr]) fun h => by cases h]
      rfl
    · rw [consumed .workAsk (kind e rfl) rfl (by simp [fits, hr]) fun h => by cases h]
      rfl
  · intro ho
    have snooped : ∀ k, kindOf q.kind = k → isTelemetry k = true → fits p k q.source = true →
        handleParcel p q = (snoop p k q, false) := by
      intro k e ht hf
      subst e
      exact handleParcel_telemetry ⟨hk, hl, hs, ho⟩ ht hf
    have kind : ∀ {b : Byte} {k}, q.kind = b → kindOf b = k → kindOf q.kind = k := fun e e' => e ▸ e'
    refine ⟨fun h hr => ?_, fun hr => ?_, fun hr e => ?_⟩
    · have head : headOf (countRing p fun c => { c with snooped := inc c.snooped }) q.source = some h :=
        headOf_of_role hr
      have fit : (headOf p q.source).isSome = true := by rw [headOf_of_role hr]; rfl
      refine ⟨fun e => ?_, fun e => ?_, fun e => ?_, fun e => ?_⟩
      · rw [snooped .bondOpen (kind e rfl) rfl fit]
        simp only [snoop, head]
        rfl
      · rw [snooped .samples (kind e rfl) rfl fit]
        simp only [snoop, head]
        rfl
      · rw [snooped .bondClose (kind e rfl) rfl fit]
        simp only [snoop, head]
        rfl
      · rw [snooped .unitEnd (kind e rfl) rfl fit]
        simp only [snoop, head]
        rfl
    · refine ⟨fun e => ?_, fun e => ?_⟩
      · rw [snooped .magEvent (kind e rfl) rfl (by simp [fits, hr])]
        rfl
      · rw [snooped .stripEvent (kind e rfl) rfl (by simp [fits, hr])]
        rfl
    · rw [snooped .pullResult (kind e rfl) rfl (by simp [fits, hr])]
      rfl
  · intro ho hr ht
    rw [handleParcel_passed ⟨hk, hl, hs, ho⟩ hr ht]
    refine ⟨fun h => if_pos ?_, fun hd hn => if_neg ?_⟩
    · rcases h with h | h
      · simp [countsIgnored, h]
      · have unfit : fits p (kindOf q.kind) q.source = false := by simpa [h] using ht
        simp [countsIgnored, h, unfit]
    · simp [countsIgnored, hd, hn]

/-! ## Accesses (R49, R50) -/

theorem accessWidth_eq_ite (c : StoreConfig) : accessWidth c = if c.width = some .sixteen then 2 else 1 := by
  unfold accessWidth
  split <;> simp_all

/-- An access in progress is of the head request. -/
theorem inProgress_eq_some {p : Part} {r : Request} {rest : List Request} (h : inProgress p = some (r, rest)) :
    (p.store.state = .busy ∨ p.store.state = .draining) ∧ p.store.queue = r :: rest := by
  unfold inProgress at h
  split at h
  next hs =>
    split at h
    next => cases h
    next x xs hq =>
      cases h
      exact ⟨hs, hq⟩
  next => cases h

theorem inProgress_of_busy {p : Part} (h : p.store.state = .busy) {r : Request} {rest : List Request}
    (hq : p.store.queue = r :: rest) : inProgress p = some (r, rest) := by
  unfold inProgress
  rw [if_pos (.inl h), hq]

theorem inProgress_eq_none {p : Part} (h : p.store.state = .off ∨ p.store.state = .ready) : inProgress p = none := by
  unfold inProgress
  rw [if_neg]
  rcases h with h | h <;> simp [h]

/-- Settles O23. -/
theorem accessCompletionGoesToTheNextAccess : Obligations.AccessCompletionGoesToTheNextAccess := by
  refine ⟨fun s r rest h => ?_, fun s r rest hs hq hw hc => ?_⟩
  · have reads : accessReads s = if isWrite r then [] else readBytes s.sram
        (accessAddress s.part.store.config r s.part.store.done) (accessWidth s.part.store.config) := by
      rw [accessReads, h]
    simp only [reads, accessAddress, portAddress, ← accessWidth_eq_ite]
    rfl
  · have going : completeAccess s.part (accessReads s) = setStore s.part { s.part.store with
        done := s.part.store.done + 1, got := s.part.store.got ++ accessReads s } := by
      unfold completeAccess
      rw [inProgress_of_busy hs hq]
      dsimp only
      rw [if_neg (by omega), if_neg (by simp [hw, hs])]
    show Host.Outcome.next { s with
      part := completeAccess s.part (accessReads s), sram := accessWrites s } = _
    rw [going]
    rfl

/-- Settles O25. -/
theorem accessCompletionWritesOnlyItsBytes : Obligations.AccessCompletionWritesOnlyItsBytes := by
  intro s
  refine ⟨_, rfl, rfl, fun h => ?_, fun r rest h => ⟨fun hw => ?_, fun hw => ?_⟩⟩
  · show accessWrites s = s.sram
    rw [accessWrites, h]
  · show accessWrites s = s.sram
    rw [accessWrites, h]
    exact if_neg (by rw [hw]; decide)
  · have writes : accessWrites s = sramWriteAll s.sram
        (accessAddress s.part.store.config r s.part.store.done)
        (accessData s.part.store.config r s.part.store.done) := by
      rw [accessWrites, h]
      exact if_pos hw
    refine ⟨fun k hk => ?_, fun i hi => ?_⟩
    · show sramRead (accessWrites s) k = _
      rw [writes]
      exact sramRead_writeAll_outside _ _ _ _ hk
    · show sramRead (accessWrites s) _ = _
      rw [writes]
      exact sramRead_writeAll_inside _ _ _ _ hi

theorem next_part_self (s : State) {p : Part} (h : p = s.part) : Host.Outcome.next { s with part := p } =
    (Host.Outcome.next s : Host.Outcome State Fault Refusal) := by
  rw [h]

/-- Settles O26. -/
theorem eventsOutOfPlaceDoNothing : Obligations.EventsOutOfPlaceDoNothing := by
  intro s
  refine ⟨fun h => ⟨?_, next_part_self s ?_⟩, fun h => next_part_self s ?_, fun h => next_part_self s ?_,
    fun h => next_part_self s ?_⟩
  · have part : completeAccess s.part (accessReads s) = s.part := by rw [completeAccess, inProgress_eq_none h]
    have sram : accessWrites s = s.sram := by rw [accessWrites, inProgress_eq_none h]
    show Host.Outcome.next { s with
      part := completeAccess s.part (accessReads s), sram := accessWrites s } = _
    rw [part, sram]
  · rw [timeoutAccess, inProgress_eq_none h]
  · unfold messageSent
    split
    next t ht => exact absurd ht (h t)
    all_goals rfl
  · unfold closeWindow
    split
    next w hw => exact absurd hw (h w)
    all_goals rfl
  · unfold restEnds
    split
    next hr => exact absurd hr h
    all_goals rfl

/-! ## Records and map entries (R63, R66, R67, Section 10.5) -/

@[simp] theorem length_le (k n : Nat) : (le k n).length = k := by
  induction k generalizing n with
  | zero => rfl
  | succ k ih => simp [le, ih]

theorem fromLE_le (k n : Nat) : fromLE (le k n) = n % 256 ^ k := by
  induction k generalizing n with
  | zero => simp [fromLE, le, Nat.mod_one]
  | succ k ih =>
    simp only [fromLE, le, ih, BitVec.toNat_ofNat]
    rw [show 256 ^ (k + 1) = 256 * 256 ^ k from pow_succ' 256 k, Nat.mod_mul (b := 256 ^ k)]

@[simp] theorem length_dataPartBytes (d : DataPart) : (dataPartBytes d).length = 6 := by
  cases d <;> rfl

/-- Bytes that begin with the two low bytes of a number and end with its four bytes are whole for it alone. -/
theorem wholeFor_iff {xs : List Byte} {k : BitVec 32} (h : xs.take 2 = le 2 k.toNat) (n : BitVec 32) :
    wholeFor n (xs ++ le 4 k.toNat) = true ↔ n = k := by
  have two : 2 ≤ xs.length := by
    have := congrArg List.length h
    simp only [List.length_take, length_le] at this
    omega
  have first : word16At (xs ++ le 4 k.toNat) 0 = k.toNat % 65536 := by
    rw [word16At, List.drop_zero, List.take_append_of_le_length two, h, fromLE_le]
    rfl
  have last : word32At (xs ++ le 4 k.toNat) ((xs ++ le 4 k.toNat).length - 4) = k.toNat := by
    have length : (xs ++ le 4 k.toNat).length - 4 = xs.length := by
      rw [List.length_append, length_le]
      omega
    rw [word32At, length, List.drop_left, List.take_of_length_le (by simp), fromLE_le]
    exact Nat.mod_eq_of_lt k.isLt
  simp only [wholeFor, first, last, Bool.and_eq_true, beq_iff_eq]
  refine ⟨fun h => (BitVec.eq_of_toNat_eq h.2.symm), fun h => ?_⟩
  rw [h]
  exact ⟨rfl, rfl⟩

/-- Settles O28. -/
theorem recordsAreWholeForTheirNumber : Obligations.RecordsAreWholeForTheirNumber := fun k n c j r =>
  ⟨by simp [bondRecordBytes], by simp [pullRecordBytes], wholeFor_iff rfl n, wholeFor_iff rfl n⟩

/-- Settles O29. -/
theorem lookbackIsDecidedAtHandIn : Obligations.LookbackIsDecidedAtHandIn := by
  intro p kind region k
  refine ⟨fun h => ?_, fun h hk => ?_, fun h hk => ?_⟩
  · unfold handInLookback
    simp [h]
  · unfold handInLookback
    rw [if_neg (by simp [h]), if_pos hk]
    exact ⟨rfl, rfl, rfl⟩
  · unfold handInLookback
    rw [if_neg (by simp [h]), if_neg (by omega)]
    exact ⟨rfl, (enqueue_spec p _).1⟩

/-- Settles O30: the number is taken, the request queued, the slot occupied. -/
theorem bondRecordTakesTheNextNumber : Obligations.BondRecordTakesTheNextNumber := by
  intro p c j slot
  obtain ⟨queue, -, -, wb, wp⟩ := enqueue_spec (setStore p { p.store with wb := p.store.wb + 1 })
    { kind := .bondWrite c.head slot, addr := bondAddress p.store.config p.store.wb, len := 24,
      data := bondRecordBytes p.store.wb c j }
  have store : (writeBondRecord p c j slot).store = (enqueue (setStore p { p.store with wb := p.store.wb + 1 })
      { kind := .bondWrite c.head slot, addr := bondAddress p.store.config p.store.wb, len := 24,
        data := bondRecordBytes p.store.wb c j }).store := by
    unfold writeBondRecord
    dsimp only
    split
    next => exact keeps_offerBondWrap _ _ _ .store (by decide)
    next => rfl
  rw [store]
  refine ⟨wb, queue, ?_, wp⟩
  unfold writeBondRecord
  dsimp only
  split
  next => rw [offerBondWrap_bm]; simp [modChannel_channels]
  next => simp [modChannel_channels]

theorem toNat_oneByte {n : Nat} (h : n < 256) : (oneByte n).toNat = n := by
  rw [oneByte, BitVec.toNat_ofNat]
  exact Nat.mod_eq_of_lt h

theorem index?_val {n : Nat} (i : Fin n) : index? n i.val = some i := by
  simp [index?]

/-- Settles O40: each field from its byte. -/
theorem mapEntryReadsBack : Obligations.MapEntryReadsBack := by
  rintro ⟨valid, ball, stitch, cls⟩
  have group : ∀ g : Fin 64, Fin.ofNat 64 (oneByte g.val).toNat = g := fun g => by
    rw [toNat_oneByte (by omega)]
    exact Fin.ext (Nat.mod_eq_of_lt g.isLt)
  refine ⟨?_, rfl⟩
  have hv : (boolByte valid).getLsbD 0 = valid := by cases valid <;> rfl
  have hc : index? 8 (match cls with
      | some c => oneByte c.val
      | none => 0xFF).toNat = cls := by
    cases cls with
    | none => rfl
    | some c => rw [toNat_oneByte (by omega), index?_val]
  show MapEntry.mk _ _ _ _ = _
  congr 1
  · exact group ball
  · exact group stitch

end Sys2Proof.Machine
end

section
/-! PROOFS. Verdicts and lookups (O35, O39), grants and final status (O41 to O43), and the pull rules (O44 to O46). -/

namespace Sys2Proof.Machine

-- One proof after another: every thread of a compile reserves its own stack.
set_option Elab.async false

/-! ## The verdict (R14, R18, R22) -/

theorem windowUsed_of_valid {groups : Vector BondGroup 64} {n : Fin 64} (hv : (groups.get n).valid = true)
    (ph : Phase) : windowUsed groups ph (some n) =
      some (match ph with | .ball => (groups.get n).ball | .stitch => (groups.get n).stitch) := by
  cases ph <;> exact if_pos hv

theorem windowUsed_of_invalid {groups : Vector BondGroup 64} {n : Fin 64} (hv : (groups.get n).valid = false)
    (ph : Phase) : windowUsed groups ph (some n) = none :=
  if_neg (by rw [hv]; decide)

theorem windowUsed_eq_some_iff (groups : Vector BondGroup 64) (ph : Phase) (g : Option (Fin 64)) (x : PhaseWindow) :
    windowUsed groups ph g = some x ↔ ∃ n, g = some n ∧ (groups.get n).valid = true ∧
      x = match ph with | .ball => (groups.get n).ball | .stitch => (groups.get n).stitch := by
  cases g with
  | none =>
    refine ⟨fun h => ?_, fun ⟨_, h, _⟩ => ?_⟩
    · cases h
    · cases h
  | some n =>
    cases hv : (groups.get n).valid with
    | true =>
      rw [windowUsed_of_valid hv, Option.some.injEq]
      refine ⟨fun h => ⟨n, rfl, hv, h.symm⟩, ?_⟩
      rintro ⟨m, hm, -, hx⟩
      cases hm
      exact hx.symm
    | false =>
      rw [windowUsed_of_invalid hv]
      refine ⟨fun h => ?_, ?_⟩
      · cases h
      · rintro ⟨m, hm, hm', -⟩
        cases hm
        rw [hv] at hm'
        cases hm'

theorem windowUsed_isNone_iff (groups : Vector BondGroup 64) (ph : Phase) (n : Fin 64) :
    windowUsed groups ph (some n) = none ↔ (groups.get n).valid = false := by
  cases hv : (groups.get n).valid with
  | true => simp [windowUsed_of_valid hv]
  | false => simp [windowUsed_of_invalid hv]

/-- A check that needs a window fails exactly in a window that it fails against. -/
theorem any_window_iff (w : Option PhaseWindow) (q : PhaseWindow → Prop) [DecidablePred q] :
    (w.any fun x => decide (q x)) = true ↔ ∃ x, w = some x ∧ q x := by
  cases w <;> simp

/-- The fault set is in the order of the table of checks. -/
theorem faults_pairwise (groups : Vector BondGroup 64) (c : Context) (r : Resolution) :
    (judgement groups c r).faults.Pairwise fun v x => verdictCode v ≤ verdictCode x :=
  List.Pairwise.filter _ (by decide : allChecks.Pairwise fun v x => verdictCode v ≤ verdictCode x)

theorem pass_not_mem_faults (groups : Vector BondGroup 64) (c : Context) (r : Resolution) :
    Verdict.pass ∉ (judgement groups c r).faults := fun h =>
  absurd ((mem_judgement_faults_iff ..).1 h).1 (by decide)

/-- The verdict is PASS on an empty fault set, and the first of the faults otherwise. -/
theorem verdict_cases (groups : Vector BondGroup 64) (c : Context) (r : Resolution) :
    ((judgement groups c r).faults = [] ∧ (judgement groups c r).verdict = .pass) ∨
    ∃ v vs, (judgement groups c r).faults = v :: vs ∧ (judgement groups c r).verdict = v ∧ v ≠ .pass ∧
      ∀ x ∈ vs, verdictCode v ≤ verdictCode x := by
  have verdict : (judgement groups c r).verdict = (judgement groups c r).faults.head?.getD .pass := rfl
  have ordered := faults_pairwise groups c r
  have pass := pass_not_mem_faults groups c r
  rw [verdict]
  cases hf : (judgement groups c r).faults with
  | nil => exact .inl ⟨rfl, rfl⟩
  | cons v vs =>
    rw [hf] at ordered pass
    exact .inr ⟨v, vs, rfl, rfl, fun e => pass (e ▸ List.mem_cons_self), (List.pairwise_cons.1 ordered).1⟩

theorem stickDistance_eq (s : Nat) : stickDistance s = max s 256 - min s 256 := by
  unfold stickDistance
  split <;> omega

/-- Settles O35: a check is in the fault set as `checkFails` says. -/
theorem verdictIsTheFirstFailingCheck : Obligations.VerdictIsTheFirstFailingCheck := by
  intro groups c r
  have member := mem_judgement_faults_iff groups c r
  have window := any_window_iff (windowUsed groups c.phase (groupUsed c.phase r))
  refine ⟨?_, ?_, windowUsed_eq_some_iff groups c.phase _, rfl, ?_, ?_, ?_, ?_, ?_, ?_, ?_, ?_, ?_, ?_, ?_, ?_,
    pass_not_mem_faults groups c r, ?_, ?_⟩
  · cases r with
    | entry e => cases hv : e.valid <;> cases hp : c.phase <;> simp [groupUsed, hv]
    | unmapped => simp [groupUsed]
    | storeFault => simp [groupUsed]
  · rintro e rfl hv
    cases hp : c.phase <;> simp [groupUsed, hv]
  · show (match windowUsed groups c.phase (groupUsed c.phase r) with
      | none => FailAction.holdReject
      | some w => w.action) = _
    cases windowUsed groups c.phase (groupUsed c.phase r) <;> rfl
  · simp [judgedMarks]
  · rw [member]
    simp [checkFails, allChecks]
  · rw [member]
    cases hg : groupUsed c.phase r with
    | none => simp [checkFails]
    | some n => simp [checkFails, allChecks, windowUsed_isNone_iff]
  · rw [member]
    simp [checkFails, allChecks]
  · rw [member, ← window]
    simp [checkFails, allChecks]
  · rw [member]
    simp [checkFails, allChecks]
  · rw [member, ← window]
    simp [checkFails, allChecks, stickDistance_eq, judgement]
  · rw [member, ← window]
    simp [checkFails, allChecks, judgement]
  · rw [member, ← window]
    simp [checkFails, allChecks, judgement]
  · rw [member, ← window]
    simp [checkFails, allChecks, judgement]
  · rw [member, ← window]
    simp [checkFails, allChecks, judgement]
  · rcases verdict_cases groups c r with ⟨none, pass⟩ | ⟨v, vs, faults, verdict, ne, -⟩
    · simp [none, pass]
    · simp [faults, verdict, ne]
  · rcases verdict_cases groups c r with ⟨none, pass⟩ | ⟨v, vs, faults, verdict, ne, least⟩
    · exact fun h => absurd pass h
    · rw [faults, verdict]
      refine fun _ => ⟨List.mem_cons_self, fun x hx => ?_⟩
      rcases List.mem_cons.1 hx with rfl | hx
      · exact le_rfl
      · exact least x hx

/-! ## Lookups (R39) -/

/-- Settles O39: by the cases of the examination. -/
theorem lookupTakesTheFirstCase : Obligations.LookupTakesTheFirstCase := by
  intro p key w
  refine ⟨fun e he => ?_, fun hc hf => ?_, fun hc hf hl hs => ?_, fun hc hf hl hs => ?_, fun hc hf hl => ?_⟩
  · simp [examineLookup, he]
  · simp [examineLookup, hc, hf, countMap]
  · have served : inService (countMap p fun c => { c with fetches := inc c.fetches }) = true := hs
    have places : p.map.fetches.length < fetchPlaces := hl
    simp only [examineLookup, hc, hf, places, served, if_true, Bool.false_eq_true, if_false]
    refine ⟨trivial, ?_, ?_⟩
    · simp [startFetch, countMap]
    · exact (enqueue_spec _ _).1
  · have served : inService (countMap p fun c => { c with fetches := inc c.fetches }) = false := hs
    have places : p.map.fetches.length < fetchPlaces := hl
    simp only [examineLookup, hc, hf, places, served, if_true, Bool.false_eq_true, if_false]
    exact ⟨trivial, rfl⟩
  · have places : ¬p.map.fetches.length < fetchPlaces := Nat.not_lt.2 hl
    have joined : ∀ l : List PlaceWait, ⟨key, w⟩ ∈ insertWait ⟨key, w⟩ l := by
      intro l
      induction l with
      | nil => exact List.mem_singleton_self _
      | cons x xs ih =>
        unfold insertWait
        split
        next => exact List.mem_cons_self
        next => exact List.mem_cons_of_mem _ ih
    simp [examineLookup, hc, hf, places, countMap, joined]

/-! ## Tables -/

theorem vfind_eq_some {α : Type} {n : Nat} {q : α → Bool} {v : Vector α n} {i : Fin n} (hi : q (v.get i) = true)
    (hlow : ∀ j, j < i → q (v.get j) = false) : vfind q v = some i := by
  have found : v.toList.findIdx? q = some i.val := by
    rw [List.findIdx?_eq_some_iff_getElem]
    refine ⟨by simp, by simpa [Vector.get] using hi, fun j hj => ?_⟩
    have := hlow ⟨j, by omega⟩ hj
    simpa [Vector.get] using this
  rw [vfind, found]
  exact index?_val i

theorem vfind_eq_none {α : Type} {n : Nat} {q : α → Bool} {v : Vector α n} (h : ∀ i, q (v.get i) = false) :
    vfind q v = none := by
  have none : v.toList.findIdx? q = none := by
    rw [List.findIdx?_eq_none_iff]
    intro x hx
    obtain ⟨i, hi, rfl⟩ := List.getElem_of_mem hx
    simpa [Vector.get] using h ⟨i, by simpa using hi⟩
  rw [vfind, none]
  rfl

/-! ## Grants and final status (R80, R81, R84, R87) -/

/-- Settles O42. -/
theorem finalStatusOfAUnit : Obligations.FinalStatusOfAUnit := by
  intro u wires
  unfold finalStatus
  by_cases hr : u.rejectMark = true <;> by_cases hw : u.wiresBonded.getD 0 < wires <;>
    by_cases hs : u.suspectMark = true <;> simp [hr, hw, hs] <;> omega

theorem runArbiter_eq_feedGrant {p : Part} {l : Side} {a : FeedAsk} {s : Fin 40} (idle : p.st.elevator = .idle)
    (chosen : chosenLane p = some l) (ask : (p.st.lanes.get l).feedAsk = some a) (pool : p.st.pool ≠ 0)
    (slot : vfind (fun x => x == .loaded) p.st.inMap = some s) : runArbiter p = feedGrant p l a.ask s := by
  unfold runArbiter arbiterRun
  simp [idle, chosen, ask, pool, slot]

theorem offerNotice_rp_congr {p q : Part} (h : q.rp = p.rp) (k : Nat) (x : List Byte) :
    (offerNotice q k x).rp = (offerNotice p k x).rp := by
  have count : noticeCount q = noticeCount p := by simp only [noticeCount, h]
  have total : outboundTotal q = outboundTotal p := by simp only [outboundTotal, h]
  have own : ownStation q = ownStation p := by simp only [ownStation, h]
  have casesQ := offerNotice_cases q k x
  rw [count, total, own, h] at casesQ
  rcases offerNotice_cases p k x with ⟨hn, ht, e⟩ | ⟨hfull, e⟩
  · rcases casesQ with ⟨-, -, e'⟩ | ⟨hfull, -⟩
    · rw [e, e']
    · exact absurd ⟨hn, ht⟩ hfull
  · rcases casesQ with ⟨hn, ht, -⟩ | ⟨-, e'⟩
    · exact absurd ⟨hn, ht⟩ hfull
    · rw [e, e']

/-- Settles O41. -/
theorem feedGrantTakesTheLowestLoadedSlot : Obligations.FeedGrantTakesTheLowestLoadedSlot := by
  refine ⟨fun p l a s idle chosen ask pool loaded lowest => ?_, fun p => ⟨fun hz ho => ?_, fun l hl hn => ?_,
    fun hz ho => ?_, fun l h => ?_⟩⟩
  · have slot : vfind (fun x => x == .loaded) p.st.inMap = some s :=
      vfind_eq_some (by simp [loaded]) fun i hi => by simpa using lowest i hi
    rw [runArbiter_eq_feedGrant idle chosen ask pool slot]
    have rp : ∀ q : Part, q.rp = p.rp → q.cu = p.cu → ∀ k b pl x,
        (offerStrip (giveReply q k b pl) x).rp = (offerStrip (giveReply p k b pl) x).rp := by
      intro q hrp hcu k b pl x
      have replied := giveReply_rp_congr hrp k b pl
      unfold offerStrip offerIf
      rw [giveReply_cu, giveReply_cu, hcu]
      by_cases hn : p.cu.select.strips = true
      · rw [if_pos hn, if_pos hn]
        exact offerNotice_rp_congr replied 2 x
      · rw [if_neg hn, if_neg hn]
        exact replied
    refine ⟨?_, ?_, ?_, ?_, ?_, ?_, ?_, rp _ (by simp) (by simp) _ _ _ _, ?_, ?_, ?_, ?_, ?_⟩
    · simp [feedGrant]
    · simp [feedGrant]; omega
    · simp [feedGrant]
    · simp [feedGrant, freshStrip]
    · simp [feedGrant]
    · simp [feedGrant]
    · simp [feedGrant]
    · cases l <;> simp [feedGrant, Side.other, Two.set, Two.get]
    · simp [feedGrant]
    all_goals simp [feedGrant]
  · simp [chosenLane, hz, ho]
  · cases l
    · simp only [Side.other] at hn
      simp [chosenLane, hl, hn]
    · simp only [Side.other] at hn
      simp [chosenLane, hl, hn]
  · simp [chosenLane, hz, ho]
  · by_contra hl
    obtain ⟨hp, hq⟩ := inArbitration_empty (by simpa using hl)
    simp [hp, hq] at h

theorem findIdx?_eq_some_of_lowest {α : Type} {q : α → Bool} {xs : List α} {i : Nat} {x : α} (hi : xs[i]? = some x)
    (hx : q x = true) (hlow : ∀ k < i, ∀ y, xs[k]? = some y → q y = false) : xs.findIdx? q = some i := by
  obtain ⟨hlt, rfl⟩ := List.getElem?_eq_some_iff.1 hi
  rw [List.findIdx?_eq_some_iff_getElem]
  refine ⟨hlt, hx, fun k hk => ?_⟩
  rw [hlow k hk _ (List.getElem?_eq_getElem (by omega))]
  decide

theorem sentPayload_of_short {pl : List Byte} (h : pl.length ≤ 240) : sentPayload pl = pl := if_pos h

/-- Settles O43. -/
theorem unitAskGrantsTheLowestPending : Obligations.UnitAskGrantsTheLowestPending := by
  intro p h a b free hb
  have examined : decideUnit p h a = match b.units.findIdx? fun u => u.status == .pending with
      | none => some (denyAsk p 0x33 a .stripDone)
      | some i => some (giveReply (modUnitAt p (.lane h .bond) i fun u => { u with status := .active }) 0x32 a
          (le 2 b.number.toNat ++ [oneByte i] ++ le 2 (p.st.lanes.get h).config.wires ++
            [oneByte (p.st.lanes.get h).config.bank.val])) := by
    unfold decideUnit
    simp only [free, hb, Bool.false_eq_true, if_false] <;> rfl
  refine ⟨fun i u hu pending lowest => ?_, fun none => ?_⟩
  · rw [examined, findIdx?_eq_some_of_lowest (q := fun u => u.status == .pending) hu (by simp [pending])
      fun k hk x hx => by simpa using lowest k hk x hx]
    refine ⟨_, rfl, ?_, ?_, rfl, rfl, rfl⟩
    · have bond : ((modUnitAt p (.lane h .bond) i fun u => { u with status := .active }).st.lanes.get h).bond =
          some { b with units := b.units.modify i fun u => { u with status := .active } } := by
        simp [modUnitAt, modRecord, setPosition, atPosition, hb]
      have set : b.units.modify i (fun u => { u with status := .active }) =
          b.units.set i { u with status := .active } := by
        obtain ⟨hlt, rfl⟩ := List.getElem?_eq_some_iff.1 hu
        rw [List.modify_eq_set_getElem?]
        simp [hlt]
      show Option.map _ ((modUnitAt p (.lane h .bond) i fun u => { u with status := .active }).st.lanes.get h).bond = _
      rw [bond, Option.map_some, set]
    · rw [giveReply_outbound, sentPayload_of_short (by simp)]
      rfl
  · have all : b.units.findIdx? (fun u => u.status == .pending) = .none :=
      List.findIdx?_eq_none_iff.2 fun u hu => by simpa using none u hu
    rw [examined, all]

/-! ## Pull windows, outcomes and work lists (R106, R109, R113) -/

/-- Settles O45. -/
theorem pullOutcomeByTheFirstCase : Obligations.PullOutcomeByTheFirstCase := by
  intro classes r c
  refine ⟨fun hv => ⟨if_pos hv, if_pos hv⟩, fun hv => ⟨if_neg hv, ?_⟩⟩
  have outcome : pullOutcome classes r (some c) =
      if (classes.get c).minForce ≤ r.force ∧ accepts (classes.get c) r.mode then .pass else .fail := if_neg hv
  rw [outcome]
  split
  next h => exact ⟨⟨fun _ => h, fun _ => rfl⟩, fun hn => absurd rfl hn⟩
  next h =>
    refine ⟨⟨fun e => ?_, fun e => absurd e h⟩, fun _ => rfl⟩
    cases e

theorem dropOldest_sound {w : PullWindow} (h : WindowSound w) (hn : w.n = 32) :
    (dropOldest w).n = 31 ∧ (dropOldest w).forces = w.forces.drop 1 ∧ (dropOldest w).forces.length = 31 ∧
    (dropOldest w).sum = ((w.forces.drop 1).map HeldForce.force).sum ∧
    (dropOldest w).fails = (w.forces.drop 1).countP HeldForce.fail ∧ (dropOldest w).tripped = w.tripped := by
  obtain ⟨length, -, sum, fails, -⟩ := h
  unfold dropOldest
  cases hf : w.forces with
  | nil => simp [hf, hn] at length
  | cons x xs =>
    rw [hf] at length sum fails
    simp only [List.map_cons, List.sum_cons, List.countP_cons, List.length_cons] at length sum fails
    refine ⟨?_, rfl, ?_, ?_, ?_, rfl⟩
    · show w.n - 1 = 31
      omega
    · show xs.length = 31
      omega
    · show w.sum - x.force = (xs.map HeldForce.force).sum
      omega
    · show w.fails - (if x.fail then 1 else 0) = xs.countP HeldForce.fail
      omega

/-- A force joins a window that has room for it. -/
def joinForce (w : PullWindow) (force : Nat) (fail : Bool) : PullWindow :=
  { w with
    forces := w.forces ++ [⟨force, fail⟩]
    n := w.n + 1
    sum := w.sum + force
    min := leastForce (w.forces ++ [⟨force, fail⟩])
    fails := w.fails + (if fail then 1 else 0) }

theorem insertForce_eq_joinForce (w : PullWindow) (force : Nat) (fail : Bool) :
    insertForce w force fail = joinForce (if windowPlaces ≤ w.n then dropOldest w else w) force fail := rfl

theorem joinForce_sound {w : PullWindow} (length : w.n = w.forces.length) (room : w.n < 32)
    (sum : w.sum = (w.forces.map HeldForce.force).sum) (fails : w.fails = w.forces.countP HeldForce.fail)
    (force : Nat) (fail : Bool) : WindowSound (joinForce w force fail) := by
  refine ⟨by simp [joinForce, length], ?_, by simp [joinForce, sum], ?_, rfl⟩
  · show w.n + 1 ≤ 32
    omega
  · show w.fails + _ = (w.forces ++ [_]).countP _
    rw [fails, List.countP_append, List.countP_singleton]

/-- Settles O44: by whether the window is full. -/
theorem windowStaysInAgreement : Obligations.WindowStaysInAgreement := by
  intro w force fail h
  rw [insertForce_eq_joinForce]
  by_cases hn : w.n = 32
  · obtain ⟨n, forces, flength, sum, fails, tripped⟩ := dropOldest_sound h hn
    rw [if_pos (show windowPlaces ≤ w.n from hn.ge)]
    refine ⟨joinForce_sound (n.trans flength.symm) (by omega) (by rw [sum, forces]) (by rw [fails, forces]) ..,
      ?_, tripped⟩
    rw [if_pos hn, ← forces]
    rfl
  · obtain ⟨length, places, sum, fails, -⟩ := h
    have room : w.n < 32 := Nat.lt_of_le_of_ne places hn
    rw [if_neg (show ¬windowPlaces ≤ w.n from Nat.not_le.2 room)]
    refine ⟨joinForce_sound length room sum fails .., ?_, rfl⟩
    rw [if_neg hn]
    rfl

theorem length_issuePulls (n : BitVec 16) : ∀ (k : Nat) (es : List PendingPull),
    (issuePulls n k es).length = es.length
  | _, [] => by unfold issuePulls; rfl
  | 0, _ :: _ => rfl
  | k + 1, e :: es => by
    unfold issuePulls
    split
    next => exact congrArg (· + 1) (length_issuePulls n k es)
    next => exact congrArg (· + 1) (length_issuePulls n (k + 1) es)

/-- An entry is marked exactly if fewer than `k` entries of the strip stand before it. -/
theorem issuePulls_getElem? (n : BitVec 16) : ∀ (k : Nat) (es : List PendingPull) (i : Nat) (e : PendingPull),
    es[i]? = some e → ∃ x, (issuePulls n k es)[i]? = some x ∧ x = { e with issued := x.issued } ∧
      (x.issued = true ↔ e.issued = true ∨ (e.strip = n ∧ ((es.take i).countP fun y => y.strip == n) < k))
  | _, [], _, _, h => by simp at h
  | 0, y :: es, i, e, h => ⟨e, h, rfl, by simp⟩
  | k + 1, y :: es, 0, e, h => by
    obtain rfl : y = e := by simpa using h
    unfold issuePulls
    by_cases hy : y.strip = n
    · exact ⟨{ y with issued := true }, by simp [hy], rfl, by simp [hy]⟩
    · exact ⟨y, by simp [hy], rfl, by simp [hy]⟩
  | k + 1, y :: es, i + 1, e, h => by
    have h' : es[i]? = some e := by simpa using h
    unfold issuePulls
    by_cases hy : y.strip = n
    · obtain ⟨x, hx, same, issued⟩ := issuePulls_getElem? n k es i e h'
      exact ⟨x, by simpa [hy] using hx, same, by simpa [hy] using issued⟩
    · obtain ⟨x, hx, same, issued⟩ := issuePulls_getElem? n (k + 1) es i e h'
      exact ⟨x, by simpa [hy] using hx, same, by simpa [hy] using issued⟩

theorem length_workEntry (e : PendingPull) : (workEntry e).length = 5 := by
  simp [workEntry, presence]

theorem length_flatten_workEntry (es : List PendingPull) : ((es.map workEntry).flatten).length = 5 * es.length := by
  induction es with
  | nil => rfl
  | cons e es ih =>
    simp only [List.map_cons, List.flatten_cons, List.length_append, length_workEntry, ih, List.length_cons]
    omega

/-- Settles O46. -/
theorem workAskIssuesTheFirstSixteen : Obligations.WorkAskIssuesTheFirstSixteen := by
  refine ⟨fun n es => ⟨length_issuePulls n 16 es, issuePulls_getElem? n 16 es⟩, fun p a pl => ?_⟩
  intro n listed class? entry
  have entries : entry = workEntry := by
    funext e
    have cls : class? e = classNow e.pullClass := rfl
    simp only [entry, workEntry, cls]
    cases classNow e.pullClass with
    | none => rfl
    | some v => simp [presence, bitsOf, le]
  have short : (oneByte listed.length :: (listed.map workEntry).flatten).length ≤ 240 := by
    have most : listed.length ≤ 16 := List.length_take_le ..
    rw [List.length_cons, length_flatten_workEntry]
    omega
  rw [entries]
  show giveReply (setPru p { p.pru with pulls := issuePulls n 16 p.pru.pulls }) 0x38 a
    (oneByte listed.length :: (listed.map workEntry).flatten) = _
  rw [giveReply, sentPayload_of_short short]
  rfl

end Sys2Proof.Machine
end


section
/-! PROOFS. The messages and turns of the poll walk, what the receiver keeps, the keys that act on a panel's own
view, and two commands. -/

namespace Sys2Proof.Machine

-- One proof after another: every thread of a compile reserves its own stack.
set_option Elab.async false

/-! ## Messages of a turn (R138, R145) -/

theorem startMessage_walk (p : Part) (i : Fin 4) (lines : Nat) (m : Message) :
    (startMessage p i lines m).pnc.walk = .sending ⟨i, linesAfter m lines, m, false⟩ := rfl

theorem startMessage_panels (p : Part) (i : Fin 4) (lines : Nat) (m : Message) :
    (startMessage p i lines m).pnc.panels = vmod p.pnc.panels i (takeMessage m) := rfl

theorem takeMessage_dirty (m : Message) (x : Panel) :
    (takeMessage m x).dirty = if m = .line then x.dirty.drop 1 else x.dirty := by
  cases m <;> rfl

theorem takeMessage_beep (m : Message) (x : Panel) : (takeMessage m x).beep = (x.beep && decide (m ≠ .beep)) := by
  cases m <;> simp [takeMessage]

theorem takeMessage_enabled (m : Message) (x : Panel) : (takeMessage m x).enabled = x.enabled := by
  cases m <;> rfl

theorem linesAfter_eq (m : Message) (n : Nat) : linesAfter m n = if m = .line then n + 1 else n := by
  cases m <;> rfl

theorem chooseMessage_eq_line (x : Panel) (n : Nat) (b : Bool) :
    chooseMessage x n b = .line ↔ b = false ∧ n < 2 ∧ x.dirty ≠ [] := by
  unfold chooseMessage
  split
  next hb => simp [hb]
  next hb =>
    rw [Bool.not_eq_true] at hb
    split
    next more => simp [hb, more]
    next more => split <;> simp only [reduceCtorEq, hb, true_and, more]

theorem chooseMessage_eq_beep (x : Panel) (n : Nat) (b : Bool) :
    chooseMessage x n b = .beep ↔ b = false ∧ ¬(n < 2 ∧ x.dirty ≠ []) ∧ x.beep = true := by
  unfold chooseMessage
  split
  next hb => simp [hb]
  next hb =>
    split
    next more => simp [more]
    next more => split <;> simp_all

theorem messageSent_poll {p : Part} {t : Turn} (hw : p.pnc.walk = .sending t) (hc : t.cut = false)
    (hm : t.message = .poll) : messageSent p = openWindow p t.panel := by
  simp [messageSent, hw, hc, hm]

theorem messageSent_of_not_poll {p : Part} {t : Turn} (hw : p.pnc.walk = .sending t) (hc : t.cut = false)
    (hm : t.message ≠ .poll) : messageSent p = nextMessage p t.panel t.lines (decide (t.message ≠ .line)) := by
  cases hk : t.message with
  | line => simp [messageSent, hw, hc, hk]
  | beep => simp [messageSent, hw, hc, hk]
  | poll => exact absurd hk hm

/-- Settles O49. -/
theorem pollOpensTheReplyWindow : Obligations.PollOpensTheReplyWindow := by
  intro s t hw hm hc
  show Host.Outcome.next { s with part := messageSent s.part } = _
  rw [messageSent_poll hw hc hm]
  rfl

/-- Settles O50. -/
theorem turnSendsAtMostTwoLines : Obligations.TurnSendsAtMostTwoLines := by
  intro s t hw hc hm
  let m := chooseMessage (s.part.pnc.panels.get t.panel) t.lines (decide (t.message ≠ .line))
  have sent : messageSent s.part = startMessage s.part t.panel t.lines m := messageSent_of_not_poll hw hc hm
  let next := startMessage s.part t.panel t.lines m
  have run : exec .messageSent s = .next { s with part := next } := by
    show Host.Outcome.next { s with part := messageSent s.part } = _
    rw [sent]
  refine ⟨{ s with part := next }, ⟨t.panel, linesAfter m t.lines, m, false⟩, run, rfl, rfl, rfl, ?_, rfl⟩
  intro x y another
  have line : m = .line ↔ another := by
    rw [chooseMessage_eq_line]
    simp [another, x]
  have taken : y = takeMessage m x := vmod_get_same ..
  refine ⟨line, ?_, linesAfter_eq .., fun most => ?_, ?_, ?_⟩
  · show m = .beep ↔ _
    rw [chooseMessage_eq_beep]
    simp only [another, x, decide_eq_false_iff_not, not_not, ne_eq]
    tauto
  · show linesAfter m t.lines ≤ 2
    rw [linesAfter_eq]
    split
    next hm => exact Nat.succ_le_of_lt (line.1 hm).2.1
    next => exact most
  · rw [taken, takeMessage_dirty]
  · rw [taken, takeMessage_beep]

/-! ## The receiver (R139, R141, R143) -/

/-- Settles O51. -/
theorem receivedCharacterIsKeptOrStray : Obligations.ReceivedCharacterIsKeptOrStray := by
  intro s x line framing ones parity
  have marks : markChar s.part.pnc x = ⟨⟨x.data, x.addr⟩, framing, parity⟩ := by
    have odd : (!(ones % 2 == 1)) = (ones % 2 == 0) := by
      rcases Nat.mod_two_eq_zero_or_one ones with h | h <;> simp [h]
    have parityOf : parityError line x = parity := by
      simp only [parity, ← odd]
      show (match line.parity with | .none => false | .even => _ | .odd => _) = _
      cases line.parity <;> rfl
    show RxMarked.mk _ _ (parityError line x) = _
    rw [parityOf]
    rfl
  refine ⟨fun w hw => ?_, fun closed => ?_, fun a b => rfl⟩
  · show Host.Outcome.next { s with part := receiveChar s.part x } = _
    rw [receiveChar, hw, marks]
    rfl
  · show Host.Outcome.next { s with part := receiveChar s.part x } = _
    rw [receiveChar]
    cases hw : s.part.pnc.walk with
    | listening w => exact absurd hw (closed w)
    | stopped => simp only [endReception, setPnc_pnc]; rfl
    | sending t => simp only [endReception, setPnc_pnc]; rfl
    | resting => simp only [endReception, setPnc_pnc]; rfl

theorem cleanChar_iff (x : RxMarked) :
    cleanChar x = true ↔ x.framing = false ∧ x.parity = false ∧ x.char.addr = false := by
  simp [cleanChar, and_assoc]

/-- Settles O52. -/
theorem replyIsJudgedByItsCharacters : Obligations.ReplyIsJudgedByItsCharacters := by
  intro cs
  cases cs with
  | nil => simp [judgeReply]
  | cons x xs =>
    have clean : ((x :: xs).all cleanChar = true) ↔
        ∀ y ∈ x :: xs, y.framing = false ∧ y.parity = false ∧ y.char.addr = false := by
      simp only [List.all_eq_true, cleanChar_iff]
    simp only [judgeReply, clean]
    refine ⟨by split <;> simp, fun keys => ?_⟩
    split
    next good =>
      obtain ⟨count, length, each⟩ := good
      constructor
      · intro h
        exact ⟨x, xs, rfl, count, length, each, (ReplyJudgement.valid.inj h).symm⟩
      · rintro ⟨y, ys, same, -, -, -, rfl⟩
        obtain ⟨rfl, rfl⟩ := List.cons.inj same
        rfl
    next bad =>
      constructor
      · intro h
        cases h
      · rintro ⟨y, ys, same, count, length, each, -⟩
        obtain ⟨rfl, rfl⟩ := List.cons.inj same
        exact absurd ⟨count, length, each⟩ bad

/-! ## The poll walk (R144) -/

theorem turnAt_eq_some {c : PanelController} {i : Fin 4} (h : turnAt c = some i) :
    c.poll.get c.position = some i ∧ (c.panels.get i).enabled = true := by
  unfold turnAt at h
  split at h
  next => cases h
  next j hj =>
    simp only at h
    split at h
    next gets =>
      obtain rfl := Option.some.inj h
      exact ⟨hj, (Bool.and_eq_true_iff.1 gets).1⟩
    next => cases h

theorem anyServable_of_turnAt {c : PanelController} {i : Fin 4} (h : turnAt c = some i) : anyServable c = true := by
  obtain ⟨entry, enabled⟩ := turnAt_eq_some h
  refine List.any_eq_true.2 ⟨some i, ?_, enabled⟩
  rw [← entry]
  exact Vector.mem_toList_iff.2 (Vector.getElem_mem _)

theorem walkFrom_of_turn {p : Part} {i : Fin 4} (k : Nat) (h : turnAt p.pnc = some i) :
    walkFrom (k + 1) p = nextMessage (setPnc p { p.pnc with madeTurn := true }) i 0 false := by
  simp [walkFrom, anyServable_of_turnAt h, h]

theorem walkFrom_of_skip {p : Part} (k : Nat) (servable : anyServable p.pnc = true) (h : turnAt p.pnc = none) :
    walkFrom (k + 1) p = if (advance p.pnc).2 then setWalk (setPnc p (advance p.pnc).1) .resting
      else walkFrom k (setPnc p (advance p.pnc).1) := by
  simp [walkFrom, servable, h]

/-- The examinations before the walk rests, if it meets no turn: those left of this pass, and another pass if this
one has made a turn. -/
def examinationsLeft (c : PanelController) : Nat := 16 - c.position.val + if c.madeTurn then 16 else 0

theorem examinationsLeft_pos (c : PanelController) : 0 < examinationsLeft c := by
  have := c.position.isLt
  unfold examinationsLeft
  omega

theorem examinationsLeft_le (c : PanelController) : examinationsLeft c ≤ 32 := by
  unfold examinationsLeft
  split <;> omega

theorem examinationsLeft_advance {c : PanelController} (goes : (advance c).2 = false) :
    examinationsLeft (advance c).1 + 1 = examinationsLeft c := by
  unfold advance at *
  split at goes
  next last =>
    have made : c.madeTurn = true := by simpa using goes
    simp [examinationsLeft, last, made]
  next inside =>
    have : c.position.val < 15 := by
      have := c.position.isLt
      have : c.position.val ≠ 15 := fun e => inside (Fin.ext e)
      omega
    have next : (c.position + 1).val = c.position.val + 1 := by
      rw [Fin.val_add]
      simp
      omega
    simp only [inside, if_false, examinationsLeft, next]
    omega

theorem anyServable_advance (c : PanelController) : anyServable (advance c).1 = anyServable c := by
  unfold advance
  split <;> rfl

/-- What the walk comes to with a servable entry: a turn of an enabled panel that has counted no LINE but its first,
or a rest. -/
def TurnOrRest (p : Part) : Prop :=
  (∃ t, p.pnc.walk = .sending t ∧ (p.pnc.panels.get t.panel).enabled = true ∧ t.cut = false ∧
    t.lines = if t.message = .line then 1 else 0) ∨ p.pnc.walk = .resting

theorem turnOrRest_nextMessage {p : Part} {i : Fin 4} (enabled : (p.pnc.panels.get i).enabled = true) :
    TurnOrRest (nextMessage p i 0 false) := by
  refine .inl ⟨_, startMessage_walk .., ?_, rfl, linesAfter_eq ..⟩
  show ((nextMessage p i 0 false).pnc.panels.get i).enabled = true
  rw [nextMessage, startMessage_panels, vmod_get_same, takeMessage_enabled, enabled]

theorem turnOrRest_walkFrom : ∀ (k : Nat) (p : Part), anyServable p.pnc = true → examinationsLeft p.pnc ≤ k →
    TurnOrRest (walkFrom k p)
  | 0, p, _, enough => absurd enough (Nat.not_le_of_gt (examinationsLeft_pos p.pnc))
  | k + 1, p, servable, enough => by
    cases turn : turnAt p.pnc with
    | some i =>
      rw [walkFrom_of_turn k turn]
      exact turnOrRest_nextMessage (turnAt_eq_some turn).2
    | none =>
      rw [walkFrom_of_skip k servable turn]
      split
      next => exact .inr rfl
      next goes =>
        have left := examinationsLeft_advance (Bool.eq_false_iff.2 goes)
        exact turnOrRest_walkFrom k _ ((anyServable_advance _).trans servable) (by simp only [setPnc_pnc]; omega)

/-- Settles O55. -/
theorem walkComesToATurnOrARest : Obligations.WalkComesToATurnOrARest := fun p servable =>
  turnOrRest_walkFrom 33 p servable ((examinationsLeft_le _).trans (by decide))

theorem walkFrom_pnc_only : ∀ (k : Nat) (p : Part), walkFrom k p = setPnc p (walkFrom k p).pnc
  | 0, _ => rfl
  | k + 1, p => by
    unfold walkFrom
    split
    next => rfl
    next =>
      split
      next => rfl
      next =>
        simp only
        split
        next => rfl
        next => rw [walkFrom_pnc_only k]; rfl

/-- Settles O54. -/
theorem restEndResumesTheWalk : Obligations.RestEndResumesTheWalk := by
  intro s
  refine ⟨_, rfl, ?_, fun awake => ?_, fun i resting turn => ?_⟩
  · show ({ s with part := restEnds s.part } : State) = { s with part := setPnc s.part (restEnds s.part).pnc }
    congr 1
    unfold restEnds
    split
    next => exact walkFrom_pnc_only 33 s.part
    all_goals rfl
  · show ({ s with part := restEnds s.part } : State) = s
    have : restEnds s.part = s.part := by
      unfold restEnds
      split
      next h => exact absurd h awake
      all_goals rfl
    rw [this]
  · have resumed : restEnds s.part = nextMessage (setPnc s.part { s.part.pnc with madeTurn := true }) i 0 false := by
      rw [restEnds, resting]
      exact walkFrom_of_turn 32 turn
    exact ⟨_, congrArg (fun q : Part => q.pnc.walk) resumed, rfl,
      (congrArg (fun q : Part => q.pnc.position) resumed).trans rfl⟩

/-! ## Keys on the panel's own view (R153, R154) -/

theorem oldestAlarm_cons (a : Alarm) (as : List Alarm) : oldestAlarm (a :: as) = some a.number := rfl

theorem newerAlarm_append_cons {a : Alarm} (bs : List Alarm) :
    ∀ {as : List Alarm}, a.number ∉ as.map Alarm.number → newerAlarm (as ++ a :: bs) a.number = oldestAlarm bs
  | [], _ => if_pos rfl
  | b :: as, absent => by
    simp only [List.map_cons, List.mem_cons, not_or] at absent
    exact (if_neg fun e => absent.1 e.symm).trans (newerAlarm_append_cons bs absent.2)

theorem olderAlarm_append_cons {a : Alarm} (as : List Alarm) {bs : List Alarm}
    (absent : a.number ∉ bs.map Alarm.number) : olderAlarm (as ++ a :: bs) a.number = oldestAlarm as.reverse := by
  rw [olderAlarm, List.reverse_append, List.reverse_cons, List.append_assoc]
  exact newerAlarm_append_cons as.reverse (by simpa using absent)

theorem moveSelection_of_none {p : Part} {i : Fin 4} {move : List Alarm → BitVec 16 → Option (BitVec 16)}
    (h : (p.pnc.panels.get i).selection.bind (move p.ahu.alarms) = none) : moveSelection p i move = refuseKey p i := by
  simp [moveSelection, h]

theorem moveSelection_of_some {p : Part} {i : Fin 4} {move : List Alarm → BitVec 16 → Option (BitVec 16)}
    {n : BitVec 16} (h : (p.pnc.panels.get i).selection.bind (move p.ahu.alarms) = some n) :
    moveSelection p i move = modPanel p i fun x => setSelection x (some n) := by
  simp [moveSelection, h]

theorem setSelection_selection (x : Panel) (n : Option (BitVec 16)) : (setSelection x n).selection = n := by
  unfold setSelection markAlarmLines
  split
  next h => exact h
  next => split <;> rfl

theorem setSelection_page (x : Panel) (n : Option (BitVec 16)) : (setSelection x n).page = x.page := by
  unfold setSelection markAlarmLines
  split
  next => rfl
  next => split <;> rfl

theorem setSelection_dirty_of_other_page {x : Panel} {n : Option (BitVec 16)} (h : x.page ≠ 1) :
    (setSelection x n).dirty = x.dirty := by
  unfold setSelection markAlarmLines
  split
  next => rfl
  next => rfl

theorem mem_allLines (l : Fin 8) : l ∈ allLines := by
  revert l
  decide

theorem mem_setSelection_dirty {x : Panel} {n : Option (BitVec 16)} (page : x.page = 1) (moves : x.selection ≠ n)
    {l : Fin 8} (hl : l ≠ 0) : l ∈ (setSelection x n).dirty := by
  have alarms : alarmLine l = true := bne_iff_ne.2 fun e => hl (Fin.ext e)
  have marked : setSelection x n = markLines { x with selection := n } alarmLine :=
    (if_neg moves).trans (if_pos page)
  rw [marked]
  exact List.mem_filter.2 ⟨mem_allLines l, by rw [alarms, Bool.true_or]⟩

/-- What a moved selection leaves of the panel: it names the entry, on the same page, and an alarms page has its
entry lines to send. -/
theorem view_of_moved {p : Part} {i : Fin 4} {move : List Alarm → BitVec 16 → Option (BitVec 16)} {n : BitVec 16}
    (h : (p.pnc.panels.get i).selection.bind (move p.ahu.alarms) = some n)
    (moves : (p.pnc.panels.get i).selection ≠ some n) :
    let x := p.pnc.panels.get i
    let y := (moveSelection p i move).pnc.panels.get i
    y.selection = some n ∧ y.page = x.page ∧ (x.page = 1 → ∀ l : Fin 8, l ≠ 0 → l ∈ y.dirty) ∧
      (x.page ≠ 1 → y.dirty = x.dirty) := by
  intro x y
  have moved : y = setSelection x (some n) :=
    (congrArg (fun q : Part => q.pnc.panels.get i) (moveSelection_of_some h)).trans (vmod_get_same ..)
  rw [moved]
  exact ⟨setSelection_selection .., setSelection_page .., fun page l hl => mem_setSelection_dirty page moves hl,
    setSelection_dirty_of_other_page⟩

theorem modPanel_own_view (p : Part) (i : Fin 4) (f : Panel → Panel) :
    modPanel p i f = { p with pnc := (modPanel p i f).pnc } ∧
      ∀ j, j ≠ i → (modPanel p i f).pnc.panels.get j = p.pnc.panels.get j :=
  ⟨rfl, fun _ hj => vmod_get_other _ _ _ _ hj⟩

theorem refuseKey_own_view (p : Part) (i : Fin 4) :
    refuseKey p i = { p with pnc := (refuseKey p i).pnc } ∧
      ∀ j, j ≠ i → (refuseKey p i).pnc.panels.get j = p.pnc.panels.get j :=
  ⟨rfl, fun _ hj => vmod_get_other _ _ _ _ hj⟩

theorem moveSelection_own_view (p : Part) (i : Fin 4) (move : List Alarm → BitVec 16 → Option (BitVec 16)) :
    moveSelection p i move = { p with pnc := (moveSelection p i move).pnc } ∧
      ∀ j, j ≠ i → (moveSelection p i move).pnc.panels.get j = p.pnc.panels.get j := by
  cases h : (p.pnc.panels.get i).selection.bind (move p.ahu.alarms) with
  | none => simpa only [moveSelection_of_none h] using refuseKey_own_view p i
  | some n => simpa only [moveSelection_of_some h] using modPanel_own_view p i _

theorem keyEffect_page (i : Fin 4) (p : Part) :
    keyEffect i 0x10 p = modPanel p i fun x => markAllLines { x with page := x.page + 1 } := rfl

theorem keyEffect_up (i : Fin 4) (p : Part) : keyEffect i 0x11 p = moveSelection p i olderAlarm := rfl

theorem keyEffect_down (i : Fin 4) (p : Part) : keyEffect i 0x12 p = moveSelection p i newerAlarm := rfl

theorem keyEffect_ack (i : Fin 4) (p : Part) : keyEffect i 0x13 p = keyAck p i := rfl

/-- Settles O56. -/
theorem viewKeysActOnThePanel : Obligations.ViewKeysActOnThePanel := by
  intro p i x up down
  refine ⟨?_, ?_, ?_, fun absent => ⟨?_, ?_, ?_⟩, fun page => ?_, fun n page selected => ?_, ?_⟩
  · exact congrArg Panel.page (vmod_get_same ..)
  · exact congrArg Panel.dirty (vmod_get_same ..)
  · rintro k (rfl | rfl | rfl)
    · exact modPanel_own_view p i _
    · exact moveSelection_own_view p i _
    · exact moveSelection_own_view p i _
  · exact moveSelection_of_none (by rw [show (p.pnc.panels.get i).selection = none from absent]; rfl)
  · exact moveSelection_of_none (by rw [show (p.pnc.panels.get i).selection = none from absent]; rfl)
  · rw [keyEffect_ack]
    simp [keyAck, show (p.pnc.panels.get i).selection = none from absent]
  · rw [keyEffect_ack]
    simp only [keyAck]
    split
    next => rfl
    next => exact if_pos page
  · rw [keyEffect_ack]
    simp only [keyAck, show (p.pnc.panels.get i).selection = some n from selected,
      show (p.pnc.panels.get i).page = 1 from page, ne_eq, not_true_eq_false, if_false]
    cases ackAlarm p n <;> rfl
  · intro as a bs list unique selected
    rw [list, List.map_append, List.map_cons, List.nodup_append] at unique
    obtain ⟨-, tail, apart⟩ := unique
    have before : a.number ∉ as.map Alarm.number := fun h => apart _ h _ (List.mem_cons_self ..) rfl
    have after : a.number ∉ bs.map Alarm.number := (List.nodup_cons.1 tail).1
    have older : (p.pnc.panels.get i).selection.bind (olderAlarm p.ahu.alarms) = oldestAlarm as.reverse := by
      rw [show (p.pnc.panels.get i).selection = some a.number from selected, list]
      exact olderAlarm_append_cons as after
    have newer : (p.pnc.panels.get i).selection.bind (newerAlarm p.ahu.alarms) = oldestAlarm bs := by
      rw [show (p.pnc.panels.get i).selection = some a.number from selected, list]
      exact newerAlarm_append_cons bs before
    have moves {o : Alarm} (h : a.number ≠ o.number) : (p.pnc.panels.get i).selection ≠ some o.number := by
      rw [show (p.pnc.panels.get i).selection = some a.number from selected]
      simpa using h
    refine ⟨?_, ?_, ?_, ?_⟩
    · rintro rfl
      exact moveSelection_of_none older
    · rintro rfl
      exact moveSelection_of_none newer
    · rintro xs o rfl
      exact view_of_moved (older.trans (by rw [List.reverse_append]; rfl)) (moves fun e => before (by simp [e]))
    · rintro o xs rfl
      exact view_of_moved newer (moves fun e => after (by simp [e]))

/-! ## Commands (R162, R171, R181) -/

theorem replyRefused_of_inProgress {p : Part} {c : InProgress} (h : p.cu.inProgress = some c) (r : Reason) :
    replyRefused p r = setCu (giveReply p 0x11 ⟨c.station, c.tag⟩ [c.code, 1, oneByte (reasonCode r)])
      { p.cu with inProgress := none, refused := inc p.cu.refused } := by
  simp [replyRefused, h]

theorem replyDone_of_inProgress {p : Part} {c : InProgress} (h : p.cu.inProgress = some c) (data : List Byte) :
    replyDone p data = setCu (giveReply p 0x11 ⟨c.station, c.tag⟩ ([c.code, 0, 0] ++ data))
      { p.cu with inProgress := none, done := inc p.cu.done } := by
  simp [replyDone, h]

/-- Settles O58. -/
theorem unknownCommandIsRefused : Obligations.UnknownCommandIsRefused := by
  intro p a pl unknown
  have refused : takeCommand p a pl =
      replyRefused (setCu p { p.cu with inProgress := some ⟨a.station, a.tag, pl.getD 0 0⟩ }) .argument := by
    simp [takeCommand, unknown]
  rw [refused, replyRefused_of_inProgress (c := ⟨a.station, a.tag, pl.getD 0 0⟩) rfl]
  refine ⟨?_, rfl, rfl, rfl, rfl, rfl, rfl, rfl, rfl, rfl⟩
  rw [setCu_rp, giveReply_outbound, sentPayload_of_short (by simp)]
  rfl

theorem stationIndex?_of_val {n : Nat} {i : Fin 30} (h : n = i.val + 1) : stationIndex? n = some i := by
  subst h
  simp [stationIndex?, index?_val]

theorem stationIndex?_eq_none {n : Nat} (h : n = 0 ∨ 30 < n) : stationIndex? n = none := by
  unfold stationIndex? index?
  split
  next => rfl
  next => exact dif_neg (by omega)

theorem role?_eq_none {x h : Nat} (bad : 4 < x ∨ (x = 1 ∧ 1 < h)) : role? x h = none := by
  rcases bad with bad | ⟨rfl, bad⟩
  · obtain ⟨k, rfl⟩ : ∃ k, x = k + 5 := ⟨x - 5, by omega⟩
    rfl
  · simp [role?, side?, show h ≠ 0 by omega, show h ≠ 1 by omega]

theorem cmdStationSet_of_none {p : Part} {a : List Byte}
    (h : stationIndex? (byteAt a 0) = none ∨ role? (byteAt a 1) (byteAt a 2) = none) :
    cmdStationSet p a = replyRefused p .argument := by
  unfold cmdStationSet
  split
  next hi hr => simp [hi, hr] at h
  next => rfl

/-- Settles O60. -/
theorem stationSetReplacesOneEntry : Obligations.StationSetReplacesOneEntry := by
  refine ⟨fun p n i hn => ⟨fun other r h role known => ?_, fun own r h => ?_⟩, fun p n r h bad => ?_, fun p x => ?_⟩
  · have named : role? r.toNat h.toNat = some role := by
      rcases known with ⟨rfl, rfl⟩ | ⟨rfl, rfl, rfl⟩ | ⟨rfl, rfl, rfl⟩ | ⟨rfl, rfl⟩ | ⟨rfl, rfl⟩ | ⟨rfl, rfl⟩ <;> rfl
    show cmdStationSet p [n, r, h] = _
    simp only [cmdStationSet, byteAt, List.getD_cons_zero, List.getD_cons_succ, stationIndex?_of_val hn, named,
      other, if_false]
  · show cmdStationSet p [n, r, h] = _
    unfold cmdStationSet
    split
    next => exact if_pos own
    next => rfl
  · refine cmdStationSet_of_none ?_
    rcases bad with rfl | big | role | ⟨rfl, head⟩
    · exact .inl rfl
    · exact .inl (stationIndex?_eq_none (.inr big))
    · exact .inr (role?_eq_none (.inl role))
    · exact .inr (role?_eq_none (.inr ⟨rfl, head⟩))
  · show cmdStationRing p [x] = _
    have zero : x = 0 ↔ byteAt [x] 0 = 0 := BitVec.toNat_inj.symm
    simp only [cmdStationRing, zero]
    rfl

end Sys2Proof.Machine
end


section
/-! PROOFS. The expiry of pending pulls (O13, O14), and what a good frame leaves (O16). -/

namespace Sys2Proof.Machine

-- One proof after another: every thread of a compile reserves its own stack.
set_option Elab.async false

/-! ## One expiry (R104, R105) -/

theorem sendUnwritten_pulls (p : Part) (r : PullRecord) :
    (sendUnwritten p r).pru.pulls = p.pru.pulls ∧
      (sendUnwritten p r).pru.counters.expired = p.pru.counters.expired := by
  simp [sendUnwritten, countPulls]

theorem giveRecord_pulls (p : Part) (r : PullRecord) :
    (giveRecord p r).pru.pulls = p.pru.pulls ∧ (giveRecord p r).pru.counters.expired = p.pru.counters.expired := by
  unfold giveRecord
  split
  next =>
    let joined := setPru p { p.pru with writeList := p.pru.writeList ++ [r] }
    have kept : Law.Holds joined (handInWrites 2 joined) .pulls := keeps_handInWrites 2 joined _ (by decide)
    exact ⟨kept.1, congrArg PullCounters.expired kept.2⟩
  next => exact sendUnwritten_pulls p r

theorem giveExpired_pulls (p : Part) (r : PullRecord) :
    (giveExpired p r).pru.pulls = p.pru.pulls ∧ (giveExpired p r).pru.counters.expired = p.pru.counters.expired := by
  unfold giveExpired
  split
  next => exact sendUnwritten_pulls p r
  next => exact giveRecord_pulls p r

/-- The list and the counter that an expiry at a tick leaves. -/
theorem expirePull_pulls (p : Part) (e : PendingPull) :
    (expirePull p e false).pru.pulls = p.pru.pulls.filter (fun x => !samePull e.strip e.unit e.wire x) ∧
      (expirePull p e false).pru.counters.expired = inc p.pru.counters.expired := by
  let taken := withdrawClass (setPulls p (p.pru.pulls.filter fun x => !samePull e.strip e.unit e.wire x)) e.pullClass
  have pru : taken.pru = { p.pru with pulls := p.pru.pulls.filter fun x => !samePull e.strip e.unit e.wire x } :=
    (keeps_withdrawClass _ _ .pru (by decide)).trans (setPulls_pru ..)
  let counted := countPulls taken fun c => { c with expired := inc c.expired }
  obtain ⟨pulls, expired⟩ := giveExpired_pulls counted (expiredRecord counted e)
  refine ⟨?_, ?_⟩
  · show (raiseAlarm (giveExpired counted (expiredRecord counted e)) _ _ _).pru.pulls = _
    rw [raiseAlarm_pru, pulls]
    exact congrArg PullUnit.pulls pru
  · show (raiseAlarm (giveExpired counted (expiredRecord counted e)) _ _ _).pru.counters.expired = _
    rw [raiseAlarm_pru, expired]
    show inc taken.pru.counters.expired = _
    rw [pru]

theorem exists_expired (p : Part) (e : PendingPull) (evicted : Bool) :
    ∃ a ∈ (expirePull p e evicted).ahu.alarms, a.kind = .pullExpired ∧ a.source = .lane e.lane ∧
      a.subject = some ⟨some e.strip, some e.unit, some e.wire⟩ :=
  exists_raised _ .pullExpired (.lane e.lane) _

/-- Settles O14. -/
theorem pullExpiryRemovesTheOldestDue : Obligations.PullExpiryRemovesTheOldestDue := by
  intro s
  refine ⟨fun e due room => ?_, fun out => ?_⟩
  · have expires : pullExpiry s.part = expirePull s.part e false := by simp [pullExpiry, expireOne, due, room]
    have run : exec .pullExpiry s = .next { s with part := expirePull s.part e false } := by
      rw [← expires]
      rfl
    have kept := keeps_expirePull s.part e false
    obtain ⟨pulls, expired⟩ := expirePull_pulls s.part e
    exact ⟨_, run, pulls, expired, exists_expired s.part e false, kept .time (by decide), kept .cu (by decide),
      kept .bm (by decide), kept .st (by decide), rfl, rfl⟩
  · have stays : pullExpiry s.part = s.part := by
      rcases out with due | full
      · simp [pullExpiry, expireOne, due]
      · unfold pullExpiry expireOne
        split
        next => rfl
        next => simp [full]
    show Host.Outcome.next { s with part := pullExpiry s.part } = _
    rw [stays]

/-! ## The expiries of a tick (R104) -/

/-- What expiries of entries that are due change of the pending list, its counter and the alarm list: the oldest
entries that are due have left. -/
structure Expiries (due : PendingPull → Bool) (p q : Part) : Prop where
  shorter : q.pru.pulls.length ≤ p.pru.pulls.length
  stay : q.pru.pulls.filter (fun e => !due e) = p.pru.pulls.filter fun e => !due e
  gone : q.pru.pulls.filter due = (p.pru.pulls.filter due).drop (p.pru.pulls.length - q.pru.pulls.length)
  counted : q.pru.counters.expired =
    incMany (p.pru.pulls.length - q.pru.pulls.length) p.pru.counters.expired
  alarms : ∀ e ∈ p.pru.pulls, e ∉ q.pru.pulls →
    ∃ a ∈ q.ahu.alarms, a.kind = .pullExpired ∧ a.source = .lane e.lane

theorem Expiries.refl (due : PendingPull → Bool) (p : Part) : Expiries due p p where
  shorter := le_rfl
  stay := rfl
  gone := by simp
  counted := by simp [incMany]
  alarms e he hn := absurd he hn

/-- No two entries of the list are of one pull (R103). -/
def PullsApart (es : List PendingPull) : Prop :=
  es.Pairwise fun x y => ¬(x.strip = y.strip ∧ x.unit = y.unit ∧ x.wire = y.wire)

theorem samePull_iff (x y : PendingPull) :
    samePull x.strip x.unit x.wire y = true ↔ x.strip = y.strip ∧ x.unit = y.unit ∧ x.wire = y.wire := by
  simp only [samePull, Bool.and_eq_true, beq_iff_eq, and_assoc]
  exact and_congr eq_comm (and_congr eq_comm eq_comm)

theorem filter_not_samePull {e : PendingPull} : ∀ {as bs : List PendingPull}, PullsApart (as ++ e :: bs) →
    (as ++ e :: bs).filter (fun x => !samePull e.strip e.unit e.wire x) = as ++ bs := by
  intro as bs apart
  obtain ⟨-, tail, cross⟩ := List.pairwise_append.1 apart
  have others : ∀ x ∈ as ++ bs, samePull e.strip e.unit e.wire x = false := by
    intro x hx
    rw [Bool.eq_false_iff, ne_eq, samePull_iff]
    rcases List.mem_append.1 hx with hx | hx
    · exact fun ⟨strip, unit, wire⟩ => cross x hx e (.head _) ⟨strip.symm, unit.symm, wire.symm⟩
    · exact (List.pairwise_cons.1 tail).1 x hx
  have self : samePull e.strip e.unit e.wire e = true := (samePull_iff e e).2 ⟨rfl, rfl, rfl⟩
  rw [List.filter_append, List.filter_cons, self]
  simp only [Bool.not_true, Bool.false_eq_true, if_false, ← List.filter_append]
  exact List.filter_eq_self.2 fun x hx => by simp [others x hx]

theorem expireOne_eq_some {p q : Part} (h : expireOne p = some q) :
    ∃ e as bs, q = expirePull p e false ∧ isDue p e = true ∧ p.pru.pulls = as ++ e :: bs ∧
      ∀ x ∈ as, isDue p x = false := by
  unfold expireOne at h
  split at h
  next => cases h
  next e he =>
    split at h
    next => cases h
    next =>
      obtain ⟨due, as, bs, list, before⟩ := List.find?_eq_some_iff_append.1 he
      exact ⟨e, as, bs, (Option.some.inj h).symm, due, list, fun x hx => by simpa using before x hx⟩

theorem expireOne_eq_none {p : Part} (h : expireOne p = none) :
    (∀ e ∈ p.pru.pulls, isDue p e = false) ∨ writesFull p = true := by
  unfold expireOne at h
  split at h
  next he => exact .inl fun e hm => by simpa using List.find?_eq_none.1 he e hm
  next =>
    split at h
    next full => exact .inr full
    next => cases h

theorem isDue_congr {p q : Part} (h : q.pru.plans = p.pru.plans) : isDue q = isDue p := by
  funext e
  rw [isDue, isDue, h]

/-- The oldest entry that is due expires, and those that then expire follow it. -/
theorem Expiries.cons {due : PendingPull → Bool} {p q : Part} {e : PendingPull} {as bs : List PendingPull}
    (isDue : due e = true) (list : p.pru.pulls = as ++ e :: bs) (before : ∀ x ∈ as, due x = false)
    (apart : PullsApart p.pru.pulls) (kinds : Law.Holds (expirePull p e false) q .kinds)
    (rest : Expiries due (expirePull p e false) q) : Expiries due p q := by
  obtain ⟨pulls, expired⟩ := expirePull_pulls p e
  have left : (expirePull p e false).pru.pulls = as ++ bs := by
    rw [pulls, list]
    exact filter_not_samePull (list ▸ apart)
  obtain ⟨shorter, stay, gone, counted, alarms⟩ := rest
  rw [left] at shorter stay gone counted alarms
  have none : as.filter due = [] := List.filter_eq_nil_iff.2 fun x hx => by simp [before x hx]
  have length : p.pru.pulls.length - q.pru.pulls.length = (as ++ bs).length - q.pru.pulls.length + 1 := by
    simp only [list, List.length_append, List.length_cons] at shorter ⊢
    omega
  refine ⟨?_, ?_, ?_, ?_, fun x hx hn => ?_⟩
  · simp only [list, List.length_append, List.length_cons] at shorter ⊢
    omega
  · rw [stay, list]
    simp [isDue]
  · rw [gone, length, list, List.filter_append, List.filter_append, none, List.filter_cons, if_pos isDue]
    rfl
  · rw [counted, length, expired]
    rfl
  · by_cases same : x = e
    · subst same
      obtain ⟨a, ha, kind, source, -⟩ := exists_expired p x false
      obtain ⟨b, hb, kind', source'⟩ := kinds a ha
      exact ⟨b, hb, kind'.trans kind, source'.trans source⟩
    · refine alarms x ?_ hn
      rw [list] at hx
      simp only [List.mem_append, List.mem_cons] at hx ⊢
      tauto

theorem expireDue_pulls_sublist_length {p q : Part} (h : expireOne p = some q) :
    q.pru.pulls.length < p.pru.pulls.length := by
  obtain ⟨e, as, bs, rfl, -, list, -⟩ := expireOne_eq_some h
  rw [(expirePull_pulls p e).1]
  refine List.length_filter_lt_length_iff_exists.2 ⟨e, by simp [list], ?_⟩
  simp [(samePull_iff e e).2 ⟨rfl, rfl, rfl⟩]

/-- The expiries of a tick go on until no entry is due or the write list has no place. -/
theorem expireDue_ends : ∀ (k : Nat) (p : Part), p.pru.pulls.length ≤ k →
    (∀ e ∈ (expireDue k p).pru.pulls, isDue (expireDue k p) e = false) ∨ writesFull (expireDue k p) = true
  | 0, p, h => .inl fun e he => by
    rw [show expireDue 0 p = p from rfl, List.length_eq_zero_iff.1 (Nat.le_zero.1 h)] at he
    cases he
  | k + 1, p, h => by
    unfold expireDue
    split
    next out => exact expireOne_eq_none out
    next q hq => exact expireDue_ends k q (by have := expireDue_pulls_sublist_length hq; omega)

theorem expireDue_expiries : ∀ (k : Nat) (p : Part), PullsApart p.pru.pulls →
    Expiries (isDue p) p (expireDue k p)
  | 0, p, _ => .refl _ p
  | k + 1, p, apart => by
    unfold expireDue
    split
    next => exact .refl _ p
    next q hq =>
      obtain ⟨e, as, bs, rfl, due, list, before⟩ := expireOne_eq_some hq
      have plans : isDue (expirePull p e false) = isDue p :=
        isDue_congr (keeps_expirePull p e false .plans (by decide)).1
      have apart' : PullsApart (expirePull p e false).pru.pulls := by
        rw [(expirePull_pulls p e).1]
        exact List.Pairwise.filter _ apart
      exact .cons due list before apart (keeps_expireDue k _ .kinds (by decide))
        (plans ▸ expireDue_expiries k _ apart')

theorem expireDue_of_none_due : ∀ (k : Nat) {p : Part}, (∀ e ∈ p.pru.pulls, isDue p e = false) → expireDue k p = p
  | 0, _, _ => rfl
  | k + 1, p, early => by
    have found : p.pru.pulls.find? (isDue p) = none := List.find?_eq_none.2 fun e he => by simp [early e he]
    simp [expireDue, expireOne, found]

theorem nextMinute_mod (t : BitVec 32) : (nextMinute t).toNat % 60000 = 0 := by
  have unfolded : nextMinute t = if (t.toNat / 60000 + 1) * 60000 < 2 ^ 32 then
      BitVec.ofNat 32 ((t.toNat / 60000 + 1) * 60000) else 0 := rfl
  by_cases h : (t.toNat / 60000 + 1) * 60000 < 2 ^ 32
  · rw [unfolded, if_pos h, BitVec.toNat_ofNat, Nat.mod_eq_of_lt h]
    exact Nat.mul_mod_left ..
  · rw [unfolded, if_neg h]
    rfl

/-- Settles O13. -/
theorem minuteTickAgesEveryPendingPull : Obligations.MinuteTickAgesEveryPendingPull := by
  intro s
  refine ⟨_, rfl, ?_⟩
  intro aged deadline due left
  let p := agePulls (setTime s.part (nextMinute s.part.time))
  have tick : minuteTick s.part = expireDue aged.length p := rfl
  have kept : Keeps timeBroken s.part (minuteTick s.part) := keeps_minuteTick s.part
  have time : (minuteTick s.part).time = nextMinute s.part.time :=
    keeps_minuteEffects (setTime s.part (nextMinute s.part.time)) .time (by decide)
  have plans := kept .plans (by decide)
  have due_after : isDue (minuteTick s.part) = due := isDue_congr plans.1
  refine ⟨?_, time, kept .cu (by decide), kept .bm (by decide), kept .st (by decide), plans.1, rfl, rfl,
    fun none => expireDue_of_none_due aged.length (p := p) none, ?_, fun apart => ?_⟩
  · exact time ▸ nextMinute_mod _
  · rcases expireDue_ends aged.length p le_rfl with none | full
    · exact .inl (due_after ▸ none)
    · have full' := Bool.and_eq_true_iff.1 full
      exact .inr ⟨full'.1, of_decide_eq_true full'.2⟩
  · obtain ⟨-, stay, gone, counted, alarms⟩ := expireDue_expiries aged.length p apart
    exact ⟨stay, gone, counted, alarms⟩

/-! ## A good frame (R158, R160, R169, R170) -/

theorem dropRingLost_heads (p : Part) (h : Side) :
    (dropRingLost p).ahu.heads.get h = { p.ahu.heads.get h with ringLost := false } := by
  let dropped := modHead (modHead p .zero fun x => { x with ringLost := false }) .one
    fun x => { x with ringLost := false }
  have heads : (dropRingLost p).ahu.heads = dropped.ahu.heads := keeps_actOnEmptied p dropped .heads (by decide)
  rw [heads]
  cases h <;> simp [dropped, Two.set, Two.get]

theorem ringUp_link (p : Part) :
    (ringUp p).rp.up = true ∧ (ringUp p).rp.watchdog = true ∧ (ringUp p).rp.period = p.rp.timeout := by
  let running := setRp p { p.rp with watchdog := true, period := p.rp.timeout }
  obtain ⟨up, watchdog, period, -⟩ := keeps_dropRingLost (setRing running true) .link (by decide)
  have ring : (setRing running true).rp = { running.rp with up := true } := by simp [setRing, tracked]
  rw [ring] at up watchdog period
  exact ⟨up, watchdog, period⟩

/-- What the walk of a good frame starts from: the ring UP, its cycle number held, and the frame counted. -/
def beforeWalk (p : Part) (f : Frame) : Part :=
  setRp (ringUp p) { (ringUp p).rp with
    lastCycle := f.cycle
    counters := { (ringUp p).rp.counters with good := inc (ringUp p).rp.counters.good } }

/-- What follows the walk of a good frame: the insertion, unless the walk stopped early, and the frame goes out. -/
def afterWalk (f : Frame) (w : Walked) : Part :=
  if w.stopped then forward w.part (sealFrame { f with area := w.bytes ++ f.area.drop f.used.toNat })
  else forward (insertParcels w.part f w.bytes).1 (sealFrame (insertParcels w.part f w.bytes).2)

theorem goodFrame_eq (p : Part) (f : Frame) :
    goodFrame p f = afterWalk f (walkParcels f.used.toNat (beforeWalk p f) (f.area.take f.used.toNat)) := rfl

theorem afterWalk_link (f : Frame) (w : Walked) : Law.Holds w.part (afterWalk f w) .link := by
  unfold afterWalk
  split <;> exact ⟨rfl, rfl, rfl, rfl⟩

theorem frameClass_eq_good {f : Frame} (h : frameClass f = .good) :
    checkPasses f = true ∧ f.area.length = f.capacity.toNat ∧ f.used.toNat ≤ f.capacity.toNat := by
  unfold frameClass at h
  split at h
  next => cases h
  next sound =>
    split at h
    next => cases h
    next fits =>
      simp only [Bool.or_eq_true, not_or, Bool.not_eq_true, Bool.not_eq_false', decide_eq_true_eq] at sound fits
      have passes := sound.1
      refine ⟨passes, ?_, by omega⟩
      rw [checkPasses, Bool.and_eq_true, beq_iff_eq] at passes
      exact passes.1

theorem length_flatten_fitParcels (qs : List Parcel) (free : Nat) :
    (((fitParcels free qs).1.map parcelBytes).flatten).length ≤ free := by
  induction qs generalizing free with
  | nil => exact Nat.zero_le _
  | cons q qs ih =>
    unfold fitParcels
    split
    next fits =>
      have := ih (free - parcelLength q)
      simp only [List.map_cons, List.flatten_cons, List.length_append, parcelBytes_length]
      omega
    next => exact Nat.zero_le _

/-- What an insertion leaves, of a used part as long as the walk found it. -/
theorem insertParcels_eq {p : Part} {f : Frame} {used : List Byte} (h : used.length = f.used.toNat) :
    let out := fitParcels (f.capacity.toNat - f.used.toNat) p.rp.outbound
    let added := (out.1.map parcelBytes).flatten
    insertParcels p f used =
      (setRp p { p.rp with
        outbound := out.2
        counters := { p.rp.counters with inserted := incMany out.1.length p.rp.counters.inserted } },
       { f with
        area := used ++ added ++ f.area.drop (f.used.toNat + added.length)
        used := BitVec.ofNat 16 (f.used.toNat + added.length) }) := by
  simp only [insertParcels, List.length_append, h]
  rfl

/-- The frame that goes out behind a walk that stopped early. -/
theorem afterWalk_of_stopped {f : Frame} {w : Walked} (h : w.stopped = true) :
    afterWalk f w = setRp w.part { w.part.rp with
      forwarded := some (sealFrame { f with area := w.bytes ++ f.area.drop f.used.toNat }) } := if_pos h

/-- The frame that goes out with the parcels that fit behind its used part. -/
theorem afterWalk_of_whole {f : Frame} {w : Walked} (h : w.stopped = false) (walked : w.bytes.length = f.used.toNat) :
    let out := fitParcels (f.capacity.toNat - f.used.toNat) w.part.rp.outbound
    let added := (out.1.map parcelBytes).flatten
    afterWalk f w = setRp w.part { w.part.rp with
      forwarded := some (sealFrame { f with
        area := w.bytes ++ added ++ f.area.drop (f.used.toNat + added.length)
        used := BitVec.ofNat 16 (f.used.toNat + added.length) })
      outbound := out.2
      counters := { w.part.rp.counters with inserted := incMany out.1.length w.part.rp.counters.inserted } } := by
  rw [afterWalk, h, insertParcels_eq walked]
  rfl

/-- The ring port and the frame that a good frame's walk is followed by (R158, R169, R184). -/
theorem afterWalk_forwards {f : Frame} (good : frameClass f = .good) {w : Walked}
    (walked : w.bytes.length = f.used.toNat) :
    let t := afterWalk f w
    let out := fitParcels (f.capacity.toNat - f.used.toNat) w.part.rp.outbound
    let added := (out.1.map parcelBytes).flatten
    { t with rp := w.part.rp } = w.part ∧
    ∃ g, t.rp.forwarded = some g ∧ checkPasses g = true ∧ g.cycle = f.cycle ∧
      g.capacity = f.capacity ∧ g.flags = f.flags ∧
      (w.stopped = true → g.used = f.used ∧ g.area = w.bytes ++ f.area.drop f.used.toNat ∧
        t.rp = { w.part.rp with forwarded := some g }) ∧
      (w.stopped = false → g.used.toNat = f.used.toNat + added.length ∧
        g.area = w.bytes ++ added ++ f.area.drop (f.used.toNat + added.length) ∧
        t.rp = { w.part.rp with
          forwarded := some g
          outbound := out.2
          counters := { w.part.rp.counters with
            inserted := incMany out.1.length w.part.rp.counters.inserted } }) ∧
      (w.bytes = f.area.take f.used.toNat → w.stopped = true ∨ out.1 = [] → g = f) := by
  intro t out added
  obtain ⟨passes, area, fits⟩ := frameClass_eq_good good
  have room : added.length ≤ f.capacity.toNat - f.used.toNat := length_flatten_fitParcels ..
  have width := f.capacity.isLt
  cases h : w.stopped with
  | true =>
    have left : t = _ := afterWalk_of_stopped h
    rw [left]
    refine ⟨rfl, _, rfl, checkPasses_sealFrame ?_, rfl, rfl, rfl, fun _ => ⟨rfl, rfl, rfl⟩,
      fun whole => absurd whole (by decide), fun same _ => ?_⟩
    · show (w.bytes ++ f.area.drop f.used.toNat).length = f.capacity.toNat
      simp only [List.length_append, walked, List.length_drop]
      omega
    · rw [same, List.take_append_drop]
      exact sealFrame_of_checkPasses passes
  | false =>
    have left : t = _ := afterWalk_of_whole h walked
    rw [left]
    refine ⟨rfl, _, rfl, checkPasses_sealFrame ?_, rfl, rfl, rfl, fun stopped => absurd stopped (by decide),
      fun _ => ⟨Nat.mod_eq_of_lt (Nat.lt_of_le_of_lt (by omega) width : f.used.toNat + added.length < 2 ^ 16),
        rfl, rfl⟩, fun same stays => ?_⟩
    · show (w.bytes ++ added ++ f.area.drop (f.used.toNat + added.length)).length = f.capacity.toNat
      simp only [List.length_append, walked, List.length_drop]
      omega
    · have none : out.1 = [] := stays.resolve_left (by decide)
      have nothing : added = [] := by simp only [added, none, List.map_nil, List.flatten_nil]
      show sealFrame { f with
        area := w.bytes ++ added ++ f.area.drop (f.used.toNat + added.length)
        used := BitVec.ofNat 16 (f.used.toNat + added.length) } = f
      rw [nothing, same, List.append_nil, List.length_nil, Nat.add_zero, List.take_append_drop, BitVec.ofNat_toNat,
        BitVec.setWidth_eq]
      exact sealFrame_of_checkPasses passes

/-- Settles O16. -/
theorem goodFrameBringsTheRingUp : Obligations.GoodFrameBringsTheRingUp := by
  intro f s good
  have arrives : frameArrives s.part f = goodFrame s.part f := by rw [frameArrives, good]
  have run : exec (.frameArrival f) s = .next { s with part := goodFrame s.part f } := by
    rw [← arrives]
    rfl
  have kept := keeps_goodFrame s.part f
  let w := walkParcels f.used.toNat (beforeWalk s.part f) (f.area.take f.used.toNat)
  obtain ⟨passes, area, fits⟩ := frameClass_eq_good good
  have walked : w.bytes.length = f.used.toNat := by
    rw [show w.bytes.length = _ from walkKeepsTheUsedLength .., List.length_take]
    omega
  have walk : Law.Holds (beforeWalk s.part f) w.part .link := keeps_walkParcels _ _ _ .link (by decide)
  obtain ⟨up, watchdog, period, cycle⟩ := Law.trans walk (afterWalk_link f w)
  obtain ⟨ringUp, running, full⟩ := ringUp_link s.part
  refine ⟨_, run, up.trans ringUp, watchdog.trans running, period.trans full, cycle, kept .time (by decide),
    kept .station (by decide), rfl, rfl, fun h => ?_, afterWalk_forwards good walked⟩
  exact (dropRingLost_heads _ h).trans (by simp [setRing, tracked])

end Sys2Proof.Machine
end


section
/-! PROOFS. The end of a store request (O24, O27): what a delivery and all that it sets off leave of the store, of
the contexts that waited, of the correlation slot and of the outbound queue; and the beginning of a drain (O31). -/

namespace Sys2Proof.Machine

-- One proof after another: every thread of a compile reserves its own stack.
set_option Elab.async false

/-! ## What a store that only grew, or changed its state between requests, has kept -/

/-- `Growth` without what it says of the store's state: the requests `new` have joined the queue (R57). -/
structure Later (s t : RecordStore) (c d : Two Channel) (new : List Request) : Prop where
  queue : t.queue = s.queue ++ new
  config : t.config = s.config
  firstFault : t.firstFault = s.firstFault
  timeouts : t.counters.timeouts = s.counters.timeouts
  faulted : s.counters.faulted.toNat ≤ t.counters.faulted.toNat
  atStart : s.done = 0 → s.got = [] → t.done = 0 ∧ t.got = []
  slots : ∀ h x, writeSlot d h x = writeSlot c h x ∨ ∃ r ∈ new, r.kind = .bondWrite h x

theorem Growth.later {s t : RecordStore} {c d : Two Channel} {new : List Request} (g : Growth s t c d new) :
    Later s t c d new :=
  ⟨g.queue, g.config, g.firstFault, g.timeouts, g.faulted, g.atStart, g.slots⟩

theorem Later.trans {r s t : RecordStore} {b c d : Two Channel} {xs ys : List Request} (g : Later r s b c xs)
    (g' : Later s t c d ys) : Later r t b d (xs ++ ys) where
  queue := by rw [g'.queue, g.queue, List.append_assoc]
  config := g'.config.trans g.config
  firstFault := g'.firstFault.trans g.firstFault
  timeouts := g'.timeouts.trans g.timeouts
  faulted := g.faulted.trans g'.faulted
  atStart hd hg :=
    have ⟨hd', hg'⟩ := g.atStart hd hg
    g'.atStart hd' hg'
  slots h x := by
    rcases g'.slots h x with he | ⟨r, hr, hk⟩
    · rcases g.slots h x with he' | ⟨r, hr, hk⟩
      · exact .inl (he.trans he')
      · exact .inr ⟨r, List.mem_append_left _ hr, hk⟩
    · exact .inr ⟨r, List.mem_append_right _ hr, hk⟩

/-- A store whose state alone changes. -/
theorem later_state (s : RecordStore) (x : StoreState) (c : Two Channel) : Later s { s with state := x } c c [] :=
  { (Growth.refl s c).later with }

/-- Out of service the store takes nothing in (R56). -/
structure Untouched (s t : RecordStore) : Prop where
  queue : t.queue = s.queue
  state : t.state = s.state
  config : t.config = s.config
  firstFault : t.firstFault = s.firstFault
  wb : t.wb = s.wb
  wp : t.wp = s.wp

theorem Growth.untouched {s t : RecordStore} {c d : Two Channel} {new : List Request} (g : Growth s t c d new)
    (out : s.state.serves = false) : new = [] ∧ Untouched s t := by
  obtain ⟨rfl, wb, wp⟩ := g.outOfService out
  exact ⟨rfl, by rw [g.queue, List.append_nil], by rw [g.state]; simp, g.config, g.firstFault, wb, wp⟩

theorem Untouched.trans {r s t : RecordStore} (h : Untouched r s) (h' : Untouched s t) : Untouched r t :=
  ⟨h'.queue.trans h.queue, h'.state.trans h.state, h'.config.trans h.config, h'.firstFault.trans h.firstFault,
    h'.wb.trans h.wb, h'.wp.trans h.wp⟩

/-! ## The delivery (R59) -/

/-- What a delivery and the Pull Record Unit behind it hand in. A BOND_WRITE that is not withdrawn has freed its slot
before (R21): `d` are the channels with the slot free. -/
theorem growth_finishRequest (p : Part) (r : Request) (got : Option (List Byte)) :
    ∃ d new, Growth p.store (finishRequest p r got).store d (finishRequest p r got).bm.channels new ∧
      ∀ h x, r.kind = .bondWrite h x → r.withdrawn = false → writeSlot d h x = none := by
  have pumped : ∀ q : Part, Law.Holds q (pumpPulls q) .growth := fun q => keeps_pumpPulls q _ (by decide)
  by_cases bond : ∃ h x, r.kind = .bondWrite h x ∧ r.withdrawn = false
  · obtain ⟨h, x, kind, wanted⟩ := bond
    have delivered : deliverRequest p r got = freeWriteSlot p h x := by simp [deliverRequest, kind, wanted]
    let freed := modChannel p h fun ch => { ch with slots := ch.slots.set x none }
    have issued : Law.Holds freed (freeWriteSlot p h x) .growth := keeps_examineIssue freed h _ (by decide)
    obtain ⟨new, grown⟩ := Law.trans issued (pumped (freeWriteSlot p h x))
    refine ⟨freed.bm.channels, new, ?_, fun g y e _ => ?_⟩
    · rw [finishRequest, delivered]
      exact grown
    · obtain ⟨rfl, rfl⟩ := ReqKind.bondWrite.inj (kind.symm.trans e)
      simp [freed, writeSlot, modChannel_channels]
  · have delivered : Law.Holds p (deliverRequest p r got) .growth := by
      by_cases silent : r.withdrawn = true
      · have same : deliverRequest p r got = p := if_pos silent
        rw [same]
        exact Law.refl p .growth
      · refine keeps_deliverRequest (fun h x e => bond ⟨h, x, e, by simpa using silent⟩) got _ (by decide)
    obtain ⟨new, grown⟩ := Law.trans delivered (pumped (deliverRequest p r got))
    exact ⟨p.bm.channels, new, grown, fun h x e wanted => absurd ⟨h, x, e, wanted⟩ bond⟩

/-- Only a command of the cell computer answers at the end of its request. -/
theorem deliverRequest_cu {r : Request} (write : r.kind ≠ .mapWrite) (read : r.kind ≠ .mapRead)
    (record : ∀ x k, r.kind ≠ .recordRead x k) (p : Part) (got : Option (List Byte)) :
    (deliverRequest p r got).cu = p.cu := by
  unfold deliverRequest
  split
  next => rfl
  next =>
    split
    next key _ => exact keeps_fetchComplete p key _ .cu (by decide)
    next h x _ => exact keeps_freeWriteSlot p h x .cu (by decide)
    next ph k _ =>
      split
      next => exact keeps_resolvePart p ph _ .cu (by decide)
      next bs =>
        exact ((keeps_judgeLookback p k bs).trans (keeps_resolvePart _ ph _)) .cu (by decide)
    next => rfl
    next e => exact absurd e write
    next e => exact absurd e read
    next x k e => exact absurd e (record x k)

theorem finishRequest_cu {r : Request} (write : r.kind ≠ .mapWrite) (read : r.kind ≠ .mapRead)
    (record : ∀ x k, r.kind ≠ .recordRead x k) (p : Part) (got : Option (List Byte)) :
    (finishRequest p r got).cu = p.cu :=
  (keeps_pumpPulls _ .cu (by decide)).trans (deliverRequest_cu write read record p got)

/-! ## What follows a delivery (R55, R58) -/

theorem goOn_of_draining {p : Part} (h : p.store.state = .draining) : goOn p = finishDisable p := if_pos h

theorem goOn_of_waiting {p : Part} (h : p.store.state = .busy) (waiting : p.store.queue ≠ []) : goOn p = p := by
  simp [goOn, h, waiting]

theorem goOn_of_empty {p : Part} (h : p.store.state = .busy) (empty : p.store.queue = []) : goOn p = becomeReady p := by
  simp [goOn, h, empty]

theorem replyDone_outbound {p : Part} {c : InProgress} (h : p.cu.inProgress = some c) {data : List Byte}
    (short : data.length ≤ 237) :
    (replyDone p data).rp.outbound =
      p.rp.outbound ++ [⟨0x11, ownStation p, c.station, c.tag, [c.code, 0, 0] ++ data⟩] := by
  rw [replyDone_of_inProgress h, setCu_rp, giveReply_outbound, sentPayload_of_short]
  simp only [List.length_append, List.length_cons, List.length_nil]
  omega

theorem replyDone_inProgress (p : Part) (data : List Byte) : (replyDone p data).cu.inProgress = none := by
  unfold replyDone
  split
  next h => exact h
  next => rfl

theorem becomeOff_store (p : Part) : (becomeOff p).store = { p.store with state := .off } :=
  keeps_offerStore _ .store (by decide)

/-- A drain ends with the store OFF and the STORE_DISABLE answered (R55). -/
theorem finishDisable_ends (p : Part) :
    Untouched { p.store with state := .off } (finishDisable p).store ∧
    Later p.store (finishDisable p).store p.bm.channels (finishDisable p).bm.channels [] ∧
    (finishDisable p).cu.inProgress = none ∧
    ∀ c, p.cu.inProgress = some c →
      ⟨0x11, ownStation p, c.station, c.tag, [c.code, 0, 0]⟩ ∈ (finishDisable p).rp.outbound := by
  let off := becomeOff p
  have offStore : (replyDone off []).store = { p.store with state := .off } :=
    (keeps_replyDone off [] .store (by decide)).trans (becomeOff_store p)
  have issued := keeps_examineBoth (replyDone off [])
  obtain ⟨new, grown⟩ := issued .growth (by decide)
  have channels : (replyDone off []).bm.channels = p.bm.channels :=
    congrArg BondMonitor.channels ((keeps_replyDone off [] .bm (by decide)).trans
      (keeps_becomeOff p .bm (by decide)))
  rw [offStore, channels] at grown
  obtain ⟨rfl, same⟩ := grown.untouched rfl
  refine ⟨same, (later_state p.store .off p.bm.channels).trans grown.later, ?_, fun c hc => ?_⟩
  · rw [show (finishDisable p).cu = _ from issued .cu (by decide)]
    exact replyDone_inProgress off []
  · have waits : off.cu.inProgress = some c := (congrArg CommandUnit.inProgress (keeps_becomeOff p .cu (by decide))).trans hc
    have sent : (replyDone off []).rp.outbound <+: (finishDisable p).rp.outbound := issued .outbound (by decide)
    refine sent.subset ?_
    rw [replyDone_outbound waits (by simp)]
    have own : ownStation off = ownStation p := by
      rw [ownStation, ownStation, show off.rp.station = p.rp.station from keeps_becomeOff p .station (by decide)]
    simp [own]

/-- A store that becomes READY may take up what an issue hands in (R19, R58). -/
theorem becomeReady_follows (p : Part) :
    ∃ new, Later p.store (becomeReady p).store p.bm.channels (becomeReady p).bm.channels new ∧
      (becomeReady p).store.state = if new = [] then .ready else .busy := by
  obtain ⟨new, grown⟩ := keeps_examineBoth (setStore p { p.store with state := .ready }) .growth (by decide)
  refine ⟨new, (later_state p.store .ready p.bm.channels).trans grown.later, ?_⟩
  rw [show (becomeReady p).store.state = _ from grown.state]
  by_cases h : new = [] <;> simp [h]

/-! ## The end of the head request -/

/-- The head request has left the queue and nothing has been delivered yet; `s` is the part before the event. -/
structure Left (s p : Part) (rest : List Request) : Prop where
  queue : p.store.queue = rest
  atStart : p.store.done = 0 ∧ p.store.got = []
  config : p.store.config = s.store.config
  state : p.store.state = s.store.state
  numbers : p.store.wb = s.store.wb ∧ p.store.wp = s.store.wp
  time : p.time = s.time
  cu : p.cu = s.cu
  map : p.map = s.map
  pru : p.pru = s.pru
  station : p.rp.station = s.rp.station

theorem left_leaveQueue (p : Part) (rest : List Request) : Left p (leaveQueue p rest) rest :=
  ⟨rfl, ⟨rfl, rfl⟩, rfl, rfl, ⟨rfl, rfl⟩, rfl, rfl, rfl, rfl, rfl⟩

theorem Left.ownStation_eq {s p : Part} {rest : List Request} (left : Left s p rest) : ownStation p = ownStation s := by
  rw [ownStation, ownStation, left.station]

theorem Left.placeWait {s p : Part} {rest : List Request} (left : Left s p rest) :
    p.map.placeWait = s.map.placeWait := congrArg MapCache.placeWait left.map

theorem Left.mapSlots {s p : Part} {rest : List Request} (left : Left s p rest) : p.map.slots = s.map.slots :=
  congrArg MapCache.slots left.map

/-- What a delivery, and all that it sets off, keeps. -/
theorem keeps_ended (p : Part) (r : Request) (got : Option (List Byte)) :
    Keeps worldBroken p (goOn (finishRequest p r got)) :=
  (keeps_finishRequest_any p r got).andThen (keeps_goOn _)

/-- The next request, READY or OFF follows (R55, R58), and what has been handed in meanwhile. -/
theorem ended_follows {s p : Part} {r : Request} {rest : List Request} (left : Left s p rest)
    (running : s.store.state = .busy ∨ s.store.state = .draining) (got : Option (List Byte)) :
    ∃ d new, NextRequestFollows s (goOn (finishRequest p r got)) r rest new ∧
      Later p.store (goOn (finishRequest p r got)).store d (goOn (finishRequest p r got)).bm.channels new ∧
      ∀ h x, r.kind = .bondWrite h x → r.withdrawn = false → writeSlot d h x = none := by
  obtain ⟨d, new, grown, freed⟩ := growth_finishRequest p r got
  have kept := keeps_ended p r got
  have time : (goOn (finishRequest p r got)).time = s.time := (kept .time (by decide)).trans left.time
  have cu := @finishRequest_cu r
  have station : ownStation (finishRequest p r got) = ownStation s := by
    rw [← left.ownStation_eq, ownStation, ownStation,
      show (finishRequest p r got).rp.station = p.rp.station from
        keeps_finishRequest_any p r got .station (by decide)]
  replace cu := fun write read record => cu write read record p got
  generalize finishRequest p r got = u at *
  rcases running with busy | draining
  · have uBusy : u.store.state = .busy := by
      rw [grown.state, left.state, busy]
      rfl
    by_cases waiting : u.store.queue = []
    · obtain ⟨more, later, state⟩ := becomeReady_follows u
      rw [← goOn_of_empty uBusy waiting] at later state
      have all := grown.later.trans later
      obtain ⟨done, nothing⟩ := all.atStart left.atStart.1 left.atStart.2
      refine ⟨d, new ++ more, ⟨?_, done, nothing, all.config.trans left.config, time, fun _ => ?_, fun h => ?_⟩,
        all, freed⟩
      · rw [all.queue, left.queue]
      · rw [state, later.queue, waiting, List.nil_append]
      · rw [busy] at h
        cases h
    · rw [goOn_of_waiting uBusy waiting] at time ⊢
      obtain ⟨done, nothing⟩ := grown.atStart left.atStart.1 left.atStart.2
      refine ⟨d, new, ⟨?_, done, nothing, grown.config.trans left.config, time, fun _ => ?_, fun h => ?_⟩,
        grown.later, freed⟩
      · rw [grown.queue, left.queue]
      · rw [uBusy, if_neg waiting]
      · rw [busy] at h
        cases h
  · have pDraining : p.store.state = .draining := left.state.trans draining
    obtain ⟨rfl, same⟩ := grown.untouched (by rw [pDraining]; rfl)
    have uDraining : u.store.state = .draining := same.state.trans pDraining
    obtain ⟨off, later, answered, reply⟩ := finishDisable_ends u
    rw [← goOn_of_draining uDraining] at off later answered reply
    have all := grown.later.trans later
    obtain ⟨done, nothing⟩ := all.atStart left.atStart.1 left.atStart.2
    refine ⟨d, [], ⟨?_, done, nothing, all.config.trans left.config, time, fun h => ?_, fun _ =>
      ⟨off.state, rfl, off.wb.trans (same.wb.trans left.numbers.1), off.wp.trans (same.wp.trans left.numbers.2),
        answered, fun c hc write read record => ?_⟩⟩, all, freed⟩
    · rw [all.queue, left.queue]
      rfl
    · rw [draining] at h
      cases h
    · rw [← station]
      exact reply c (by rw [cu write read record, left.cu]; exact hc)

theorem writeSlotFreed_of_later {s : RecordStore} {t : Part} {d : Two Channel} {new : List Request} {h x : Side}
    (later : Later s t.store d t.bm.channels new) (freed : writeSlot d h x = none) : WriteSlotFreed t h x new := by
  rcases later.slots h x with same | taken
  · exact .inl (same.trans freed)
  · exact .inr taken

/-! ## The waiters of a fetch (R41, R43) -/

/-- The context at a place, if there is one, has its lookup RESOLVED to `x`. -/
def ResolvedTo (x : Resolution) (h : Side) (i : Fin 4) (p : Part) : Prop :=
  ∀ c, contextOf p h i = some c → c.lookup = .resolved x

theorem ResolvedTo.later {x : Resolution} {h : Side} {i : Fin 4} {p q : Part} (resolved : ResolvedTo x h i p)
    (kept : Law.Holds p q .lookups) : ResolvedTo x h i q := fun c hc => by
  obtain ⟨b, hb, same⟩ := kept h i c hc
  exact same ▸ resolved b hb

theorem contextOf_modContext_same (p : Part) (h : Side) (i : Fin 4) (f : Context → Context) :
    contextOf (modContext p h i f) h i = (contextOf p h i).map f := by
  simp [contextOf, modContext, modChannel_channels]

theorem contextOf_modContext_other (p : Part) {h g : Side} {i j : Fin 4} (f : Context → Context)
    (other : ¬(g = h ∧ j = i)) : contextOf (modContext p h i f) g j = contextOf p g j := by
  simp only [contextOf, modContext, modChannel_channels, Two.get_set_eq_ite]
  split
  next e =>
    subst e
    exact vmod_get_other _ _ _ _ fun e => other ⟨rfl, e⟩
  next => rfl

/-- A context that waits has its lookup from then on. -/
theorem resolvedTo_deliverLookup (x : Resolution) (h : Side) (i : Fin 4) (n : Nat) (p : Part) :
    ResolvedTo x h i (deliverLookup p ⟨.ctx h i, n⟩ (.resolved x)) := by
  let given := modContext p h i fun c => { c with lookup := .resolved x }
  have resolved : ResolvedTo x h i given := fun c hc => by
    rw [contextOf_modContext_same, Option.map_eq_some_iff] at hc
    obtain ⟨b, -, rfl⟩ := hc
    rfl
  exact resolved.later (keeps_judgeAndIssue given h i .lookups (by decide))

/-- The result of another party's lookup leaves the context's own. -/
theorem ResolvedTo.deliverLookup {x : Resolution} {h : Side} {i : Fin 4} {p : Part} (resolved : ResolvedTo x h i p)
    {w : Waiter} (other : w.party ≠ .ctx h i) (y : LookupState) : ResolvedTo x h i (deliverLookup p w y) := by
  unfold Machine.deliverLookup
  split
  next g j party =>
    have apart : ¬(h = g ∧ i = j) := fun ⟨e, e'⟩ => other (by rw [party, e, e'])
    have given : ResolvedTo x h i (modContext p g j fun c => { c with lookup := y }) := fun c hc =>
      resolved c (contextOf_modContext_other p _ apart ▸ hc)
    exact given.later (keeps_judgeAndIssue _ g j .lookups (by decide))
  next =>
    split
    next => exact resolved.later (((keeps_settleClass p _ _).trans (keeps_pumpPulls _)) .lookups (by decide))
    next => exact resolved
    next => exact resolved

theorem resolveAll_cons (p : Part) (w : Waiter) (ws : List Waiter) (x : Resolution) :
    resolveAll p (w :: ws) x = resolveAll (deliverLookup p w (.resolved x)) ws x := rfl

theorem ResolvedTo.resolveAll {x : Resolution} {h : Side} {i : Fin 4} : ∀ (ws : List Waiter) {p : Part},
    ResolvedTo x h i p → ResolvedTo x h i (resolveAll p ws x)
  | [], _, resolved => resolved
  | w :: ws, p, resolved => by
    rw [resolveAll_cons]
    refine ResolvedTo.resolveAll ws ?_
    by_cases own : w.party = .ctx h i
    · obtain ⟨party, n⟩ := w
      obtain rfl : party = .ctx h i := own
      exact resolvedTo_deliverLookup x h i n p
    · exact resolved.deliverLookup own _

theorem resolvedTo_resolveAll {x : Resolution} {h : Side} {i : Fin 4} {n : Nat} : ∀ (ws : List Waiter) (p : Part),
    ⟨.ctx h i, n⟩ ∈ ws → ResolvedTo x h i (resolveAll p ws x)
  | [], _, waits => by cases waits
  | w :: ws, p, waits => by
    rw [resolveAll_cons]
    rcases List.mem_cons.1 waits with own | waits
    · rw [← own]
      exact ResolvedTo.resolveAll ws (resolvedTo_deliverLookup x h i n p)
    · exact resolvedTo_resolveAll ws _ waits

theorem examineLookup_bm (p : Part) (key : MapKey) (w : Waiter) (onList : Bool) :
    (examineLookup p key w onList).1.bm = p.bm := keeps_examineLookup_any p key w onList .bm (by decide)

theorem ResolvedTo.retryLookup {x : Resolution} {h : Side} {i : Fin 4} {p : Part} (resolved : ResolvedTo x h i p)
    {y : PlaceWait} (other : y.waiter.party ≠ .ctx h i) : ResolvedTo x h i (retryLookup p y) := by
  unfold Machine.retryLookup
  split
  next =>
    have examined : ResolvedTo x h i (examineLookup p y.key y.waiter true).1 := fun c hc =>
      resolved c (by rwa [contextOf, examineLookup_bm] at hc)
    have left : ResolvedTo x h i (leaveWait (examineLookup p y.key y.waiter true).1 y.waiter) := examined
    dsimp only
    split
    next => exact examined
    next => exact left.deliverLookup other _
    next => exact left.deliverLookup other _
  next => exact resolved

theorem ResolvedTo.retryAll {x : Resolution} {h : Side} {i : Fin 4} : ∀ (ys : List PlaceWait) {p : Part},
    (∀ y ∈ ys, y.waiter.party ≠ .ctx h i) → ResolvedTo x h i p → ResolvedTo x h i (ys.foldl Machine.retryLookup p)
  | [], _, _, resolved => resolved
  | y :: ys, _, others, resolved =>
    ResolvedTo.retryAll ys (fun z hz => others z (.tail _ hz)) (resolved.retryLookup (others y (.head _)))

/-- A fetch that has left the list, with a result that its waiters all take: they have it, and what is retried
behind them leaves it so. -/
theorem resolvedTo_retryWaits {p q : Part} {ws : List Waiter} {x : Resolution} {h : Side} {i : Fin 4} {n : Nat}
    (waits : ⟨.ctx h i, n⟩ ∈ ws) (lists : q.map.placeWait = p.map.placeWait)
    (others : ∀ y ∈ p.map.placeWait, y.waiter.party ≠ .ctx h i) :
    ResolvedTo x h i (retryWaits (resolveAll q ws x)) := by
  refine ResolvedTo.retryAll _ (fun y hy => ?_) (resolvedTo_resolveAll ws q waits)
  rcases keeps_resolveAll q ws x .waits (by decide) y hy with pull | ⟨z, hz, same⟩
  · rw [pull]
    exact fun e => by cases e
  · exact same ▸ others z (lists ▸ hz)

/-- The part whose fetch list the fetch of a key has left. -/
def fetchDropped (p : Part) (key : MapKey) : Part :=
  setMap p { p.map with fetches := p.map.fetches.filter fun x => x.key != key }

theorem fetchComplete_of_find {p : Part} {key : MapKey} {f : Fetch} (h : p.map.fetches.find? (fun x => x.key == key) = some f)
    (result : Option MapEntry) : fetchComplete p key result = retryWaits (applyFetch (fetchDropped p key) f result) := by
  simp [fetchComplete, h, fetchDropped]

/-! ## The correlation slot (R108, R109) -/

/-- The slot with the outcome of a lookback. -/
def slotWith (ph : Phase) (x : DataPart) (e : PendingPull) (r : PullResult) (b d : Option DataPart) : CorrSlot :=
  .reading e r (if ph = .ball then some x else b) (if ph = .stitch then some x else d)

theorem resolvePart_of_reading {p : Part} {e : PendingPull} {r : PullResult} {b d : Option DataPart}
    (h : p.pru.slot = .reading e r b d) (ph : Phase) (x : Lookback) :
    resolvePart p ph x = setPru p { p.pru with slot := slotWith ph (partOf x) e r b d } := by
  cases ph <;> simp [resolvePart, h, slotWith]

/-- With a lookback or the class still open no step of the correlation can be made. -/
theorem correlateStep_of_open {p : Part} {e : PendingPull} {r : PullResult} {b d : Option DataPart}
    (h : p.pru.slot = .reading e r b d) (isOpen : b = none ∨ d = none ∨ ∃ n, e.pullClass = .resolving n) :
    correlateStep p = none := by
  unfold correlateStep
  simp only [h]
  split
  next b' d' c _ _ class' =>
    rcases isOpen with e | e | ⟨n, e⟩
    · cases e
    · cases e
    · rw [class'] at e
      cases e
  next => rfl

theorem correlateStep_of_settled {p : Part} {e : PendingPull} {r : PullResult} {b d : DataPart} {c : Option (Fin 8)}
    (h : p.pru.slot = .reading e r (some b) (some d)) (settled : e.pullClass = .settled c) :
    correlateStep p = some (composeResult p e r c b d) := by
  simp [correlateStep, h, settled]

theorem correlate_of_none {p : Part} (h : correlateStep p = none) : ∀ n, correlate n p = p
  | 0 => rfl
  | n + 1 => by simp [correlate, h]

/-- The record of a result (R109). -/
def resultRecord (p : Part) (e : PendingPull) (r : PullResult) (c : Option (Fin 8)) (b d : DataPart) : PullRecord :=
  { strip := e.strip, lane := e.lane, unit := e.unit, wire := e.wire, pullClass := c
    issued := e.issued, force := some ⟨r.force, r.clamped, r.mode⟩, outcome := pullOutcome p.pru.classes r c
    ball := b, stitch := d, time := minutes p }

/-- In service the record of a composed result is on its way to the store (R110). -/
theorem recorded_composeResult {p : Part} (hs : inService p = true) (e : PendingPull) (r : PullResult)
    (c : Option (Fin 8)) (b d : DataPart) : Recorded (composeResult p e r c b d) (resultRecord p e r c b d) := by
  have emptied : inService (setPru p { p.pru with slot := .empty }) = true := hs
  have applied : ∀ rec' force c fail,
      inService (applyOutcome (setPru p { p.pru with slot := .empty }) rec' force c fail) = true := fun _ _ _ _ =>
    (keeps_applyOutcome _ _ _ _ _ .records (by decide) emptied).1
  unfold composeResult
  dsimp only
  split
  next => exact recorded_giveRecord (applied _ _ _ _) _
  next => exact recorded_giveRecord (applied _ _ _ _) _
  all_goals exact recorded_giveRecord emptied _

theorem pumpPulls_of_open {p : Part} {e : PendingPull} {r : PullResult} {b d : Option DataPart}
    (h : p.pru.slot = .reading e r b d) (isOpen : b = none ∨ d = none ∨ ∃ n, e.pullClass = .resolving n) :
    (pumpPulls p).pru.slot = .reading e r b d := by
  have slot : (handInWrites 2 p).pru.slot = .reading e r b d := (keeps_handInWrites 2 p .slot (by decide)).trans h
  rw [pumpPulls, correlate_of_none (correlateStep_of_open slot isOpen), slot]

theorem recorded_pumpPulls {p : Part} (hs : inService p = true) {e : PendingPull} {r : PullResult} {b d : DataPart}
    {c : Option (Fin 8)} (h : p.pru.slot = .reading e r (some b) (some d)) (settled : e.pullClass = .settled c) :
    Recorded (pumpPulls p) (resultRecord p e r c b d) := by
  have handed := keeps_handInWrites 2 p
  have slot : (handInWrites 2 p).pru.slot = .reading e r (some b) (some d) := (handed .slot (by decide)).trans h
  have serves : inService (handInWrites 2 p) = true := (handed .records (by decide) hs).1
  have same : resultRecord (handInWrites 2 p) e r c b d = resultRecord p e r c b d := by
    rw [resultRecord, resultRecord, minutes, minutes, show (handInWrites 2 p).time = p.time from
      handed .time (by decide), show (handInWrites 2 p).pru.classes = p.pru.classes from (handed .plans (by decide)).2]
  have composed := recorded_composeResult serves e r c b d
  rw [same] at composed
  rw [pumpPulls, show 3 * (p.pru.intake.length + 1) = 3 * p.pru.intake.length + 2 + 1 from by omega, correlate,
    correlateStep_of_settled slot settled]
  have serves' : inService (composeResult (handInWrites 2 p) e r c b d) = true :=
    (keeps_composeResult _ _ _ _ _ _ .records (by decide) serves).1
  exact (keeps_correlate _ _ .records (by decide) serves').2 _ composed

/-- What goes on behind a delivery keeps the records that are on their way, while the store is in service. -/
theorem recorded_goOn {p : Part} (busy : p.store.state = .busy) {k : PullRecord} (h : Recorded p k) :
    Recorded (goOn p) k := by
  by_cases waiting : p.store.queue = []
  · rw [goOn_of_empty busy waiting]
    exact (keeps_examineBoth (setStore p { p.store with state := .ready }) .records (by decide) rfl).2 k h
  · rwa [goOn_of_waiting busy waiting]

/-- A lookback's outcome reaches its slot, and the slot goes on (R108, R109). -/
theorem slotTakes_resolvePart {s p : Part} {ph : Phase} {x : Lookback} (pru : p.pru = s.pru) (time : p.time = s.time)
    (state : p.store.state = s.store.state) : SlotTakes s (goOn (pumpPulls (resolvePart p ph x))) ph (partOf x) := by
  intro e r ball stitch reading
  rw [resolvePart_of_reading (by rw [pru]; exact reading)]
  intro b d
  let taken := setPru p { p.pru with slot := slotWith ph (partOf x) e r ball stitch }
  have slot : taken.pru.slot = .reading e r b d := rfl
  refine ⟨fun isOpen => ?_, fun bx dx c hb hd settled busy => ?_⟩
  · exact (keeps_goOn _ .slot (by decide)).trans (pumpPulls_of_open slot isOpen)
  · rw [hb, hd] at slot
    have busy' : taken.store.state = .busy := state.trans busy
    have serves : inService taken = true := by
      rw [inService_eq_serves, busy']
      rfl
    have recorded := recorded_pumpPulls serves slot settled
    have same : resultRecord taken e r c bx dx = resultRecord s e r c bx dx := by
      rw [resultRecord, resultRecord, minutes, minutes, show taken.time = s.time from time,
        show taken.pru.classes = s.pru.classes from (congrArg PullUnit.classes pru : p.pru.classes = _)]
    rw [same] at recorded
    obtain ⟨new, grown⟩ := keeps_pumpPulls taken .growth (by decide)
    have still : (pumpPulls taken).store.state = .busy := by
      rw [grown.state, busy']
      rfl
    exact recorded_goOn still recorded

/-! ## What each delivery brings (R59) -/

section Delivered

variable {s p : Part} {r : Request} {rest : List Request} {got : Option (List Byte)}

/-- Behind a delivery the queued replies stay. -/
theorem outbound_ended (p : Part) (r : Request) (got : Option (List Byte)) :
    (deliverRequest p r got).rp.outbound <+: (goOn (finishRequest p r got)).rp.outbound :=
  ((keeps_pumpPulls _).trans (keeps_goOn _)) .outbound (by decide)

theorem lookups_ended (p : Part) (r : Request) (got : Option (List Byte)) :
    Law.Holds (deliverRequest p r got) (goOn (finishRequest p r got)) .lookups :=
  ((keeps_pumpPulls _).trans (keeps_goOn _)) .lookups (by decide)

theorem mapSlots_ended (p : Part) (r : Request) (got : Option (List Byte)) :
    (goOn (finishRequest p r got)).map.slots = (deliverRequest p r got).map.slots :=
  ((keeps_pumpPulls _).trans (keeps_goOn _)) .mapSlots (by decide)

/-- A fetch whose result its waiters all take. -/
theorem waitersResolve_ended {q : Part} {f : Fetch} {x : Resolution}
    (delivered : deliverRequest p r got = retryWaits (resolveAll q f.waiters x))
    (lists : q.map.placeWait = s.map.placeWait) :
    WaitersResolve s (goOn (finishRequest p r got)) f x ∧
      (goOn (finishRequest p r got)).map.slots = q.map.slots := by
  refine ⟨fun h i n waits others c hc => ?_, ?_⟩
  · have resolved : ResolvedTo x h i (deliverRequest p r got) := by
      rw [delivered]
      exact resolvedTo_retryWaits waits lists others
    exact resolved.later (lookups_ended p r got) c hc
  · rw [mapSlots_ended, delivered]
    exact ((keeps_resolveAll q f.waiters x).trans (keeps_retryWaits _)) .mapSlots (by decide)

theorem deliverRequest_mapFetch (wanted : r.withdrawn = false) {key : MapKey} (kind : r.kind = .mapFetch key) {f : Fetch}
    (found : p.map.fetches.find? (fun x => x.key == key) = some f) :
    deliverRequest p r got = retryWaits (applyFetch (fetchDropped p key) f (got.map entryOf)) := by
  rw [← fetchComplete_of_find found]
  simp [deliverRequest, wanted, kind]

theorem deliverRequest_bondRead (wanted : r.withdrawn = false) {ph : Phase} {k : BitVec 32}
    (kind : r.kind = .bondRead ph k) :
    deliverRequest p r none = resolvePart p ph .fault ∧
      ∀ bs, deliverRequest p r (some bs) = resolvePart (judgeLookback p k bs).1 ph (judgeLookback p k bs).2 := by
  simp [deliverRequest, wanted, kind]

theorem judgeLookback_outcome (p : Part) (k : BitVec 32) (bs : List Byte) :
    (judgeLookback p k bs).2 = if wholeFor k bs then .found bs else .lost := by
  unfold judgeLookback
  split <;> rfl

theorem replyRefused_outbound {c : InProgress} (h : p.cu.inProgress = some c) (x : Reason) :
    (replyRefused p x).rp.outbound =
      p.rp.outbound ++ [⟨0x11, ownStation p, c.station, c.tag, [c.code, 1, oneByte (reasonCode x)]⟩] := by
  rw [replyRefused_of_inProgress h, setCu_rp, giveReply_outbound, sentPayload_of_short (by simp)]

/-- The completion STORE_FAULT is delivered. -/
theorem faultDelivered_ended {d : Two Channel} {new : List Request} (left : Left s p rest)
    (later : Later p.store (goOn (finishRequest p r none)).store d (goOn (finishRequest p r none)).bm.channels new)
    (freed : ∀ h x, r.kind = .bondWrite h x → r.withdrawn = false → writeSlot d h x = none) :
    FaultDelivered s (goOn (finishRequest p r none)) r new := by
  intro wanted
  have outbound := outbound_ended p r none
  refine ⟨fun h x kind => writeSlotFreed_of_later later (freed h x kind wanted), fun key f kind found => ?_,
    fun ph k kind => ?_, fun c hc => ?_⟩
  · have delivered := deliverRequest_mapFetch (p := p) (got := none) wanted kind (left.map ▸ found)
    obtain ⟨resolve, slots⟩ := waitersResolve_ended (s := s)
      (q := countMap (fetchDropped p key) fun c => { c with fetchFaults := inc c.fetchFaults }) delivered
      left.placeWait
    exact ⟨slots.trans left.mapSlots, resolve⟩
  · rw [finishRequest, (deliverRequest_bondRead wanted kind).1]
    exact slotTakes_resolvePart (x := .fault) left.pru left.time left.state
  · have waits : p.cu.inProgress = some c := left.cu ▸ hc
    rw [← left.ownStation_eq]
    refine ⟨fun kind => outbound.subset ?_, fun x k kind => outbound.subset ?_⟩
    · have refused : deliverRequest p r none = replyRefused p .store := by
        rcases kind with kind | kind <;> simp [deliverRequest, wanted, kind]
      rw [refused, replyRefused_outbound waits]
      exact List.mem_append_right _ (.head _)
    · have answered : deliverRequest p r none = replyDone p [3] := by
        simp [deliverRequest, wanted, kind, replyLookback]
      rw [answered, replyDone_outbound waits (by simp)]
      exact List.mem_append_right _ (.head _)

/-- A good MAP_FETCH brings its entry, or UNMAPPED where the entry is not valid. -/
theorem fetched_ended {key : MapKey} {f : Fetch} {full : List Byte} (left : Left s p rest) (wanted : r.withdrawn = false)
    (kind : r.kind = .mapFetch key) (found : s.map.fetches.find? (fun x => x.key == key) = some f)
    (fresh : f.stale = false) :
    let t := goOn (finishRequest p r (some full))
    ((entryOf full).valid = true → (∃ i, t.map.slots.get i = some ⟨key, entryOf full⟩) ∧
      WaitersResolve s t f (.entry (entryOf full))) ∧
    ((entryOf full).valid = false → t.map.slots = s.map.slots ∧ WaitersResolve s t f .unmapped) := by
  have delivered := deliverRequest_mapFetch (p := p) (got := some full) wanted kind (left.map ▸ found)
  have key_eq : f.key = key := by simpa using List.find?_some found
  refine ⟨fun valid => ?_, fun invalid => ?_⟩
  · have applied : applyFetch (fetchDropped p key) f ((some full).map entryOf) =
        resolveAll (insertEntry (fetchDropped p key) key (entryOf full)) f.waiters (.entry (entryOf full)) := by
      simp [applyFetch, fresh, valid, key_eq]
    rw [applied] at delivered
    obtain ⟨resolve, slots⟩ := waitersResolve_ended (s := s) delivered left.placeWait
    refine ⟨⟨p.map.fill, ?_⟩, resolve⟩
    rw [slots]
    exact vset_get_same ..
  · have applied : applyFetch (fetchDropped p key) f ((some full).map entryOf) =
        resolveAll (fetchDropped p key) f.waiters .unmapped := by
      simp [applyFetch, fresh, invalid]
    rw [applied] at delivered
    obtain ⟨resolve, slots⟩ := waitersResolve_ended (s := s) delivered left.placeWait
    exact ⟨slots.trans left.mapSlots, resolve⟩

/-- A lookback brings its record, or LOST. -/
theorem lookback_ended {ph : Phase} {k : BitVec 32} {full : List Byte} (left : Left s p rest)
    (wanted : r.withdrawn = false) (kind : r.kind = .bondRead ph k) :
    SlotTakes s (goOn (finishRequest p r (some full))) ph (if wholeFor k full then foundPart full else .lost) := by
  have outcome : partOf (judgeLookback p k full).2 = if wholeFor k full then foundPart full else .lost := by
    rw [judgeLookback_outcome]
    split <;> rfl
  have judged := keeps_judgeLookback p k full
  obtain ⟨new, grown⟩ := judged .growth (by decide)
  have state : (judgeLookback p k full).1.store.state = p.store.state := by
    unfold judgeLookback
    split <;> rfl
  rw [finishRequest, (deliverRequest_bondRead wanted kind).2, ← outcome]
  exact slotTakes_resolvePart ((judged .pru (by decide)).trans left.pru) ((judged .time (by decide)).trans left.time)
    (state.trans left.state)

/-- A command of the cell computer is answered with what its request has read. -/
theorem answered_ended {c : InProgress} {full : List Byte} (waits : p.cu.inProgress = some c)
    (wanted : r.withdrawn = false) :
    let answered := fun (data : List Byte) =>
      (p.rp.outbound ++ [⟨0x11, ownStation p, c.station, c.tag, [c.code, 0, 0] ++ data⟩])
        <+: (goOn (finishRequest p r (some full))).rp.outbound
    (r.kind = .mapWrite → answered []) ∧ (r.kind = .mapRead → answered (storedEntry full)) ∧
      ∀ x k, r.kind = .recordRead x k → full.length ≤ 32 →
        answered (if wholeFor k full then 0 :: full else [2]) := by
  intro answered
  have of_done : ∀ {q : Part} {data : List Byte}, deliverRequest p r (some full) = replyDone q data →
      q.cu = p.cu → q.rp = p.rp → data.length ≤ 237 → answered data := fun {q data} delivered cu rp short => by
    have outbound := outbound_ended p r (some full)
    rw [delivered, replyDone_outbound (c := c) (by rw [cu]; exact waits) short, ownStation, rp] at outbound
    exact outbound
  refine ⟨fun kind => ?_, fun kind => ?_, fun x k kind length => ?_⟩
  · exact of_done (q := p) (by simp [deliverRequest, wanted, kind]) rfl rfl (by simp)
  · exact of_done (q := p) (by simp [deliverRequest, wanted, kind]) rfl rfl (by simp [storedEntry])
  · have judged := keeps_judgeLookback p k full
    refine of_done (q := (judgeLookback p k full).1) ?_ (judged .cu (by decide)) (judged .rp (by decide)) ?_
    · simp only [deliverRequest, wanted, kind, judgeLookback_outcome, Bool.false_eq_true, if_false]
      split <;> rfl
    · split
      next => exact Nat.succ_le_succ (length.trans (by decide))
      next => decide

end Delivered

/-! ## The completion of an access (R55, R58, R59) -/

theorem completeAccess_of_last {p : Part} {r : Request} {rest : List Request} (h : inProgress p = some (r, rest))
    (last : accessCount p.store.config r ≤ p.store.done + 1) (bytes : List Byte) :
    completeAccess p bytes = goOn (finishRequest (leaveQueue p rest) r (some (p.store.got ++ bytes))) := by
  simp [completeAccess, h, last]

theorem completeAccess_of_fault {p : Part} {r : Request} {rest : List Request} (h : inProgress p = some (r, rest))
    (more : ¬accessCount p.store.config r ≤ p.store.done + 1)
    (ends : r.withdrawn = true ∨ p.store.state = .draining) (bytes : List Byte) :
    completeAccess p bytes = goOn (finishRequest
      (if r.withdrawn then leaveQueue p rest else countFaulted (leaveQueue p rest)) r none) := by
  simp only [completeAccess, h, more, if_false, faultRequest]
  rw [if_pos]
  simpa using ends

theorem min_le_inc (c : Count) : min 65535 (c.toNat + 1) ≤ (inc c).toNat := by
  rcases inc_cases c with ⟨full, e⟩ | ⟨room, e⟩
  · rw [e, full]
    exact min_le_left ..
  · have : c.toNat ≠ 65535 := fun h => room (BitVec.eq_of_toNat_eq h)
    have := c.isLt
    rw [e, BitVec.toNat_add]
    show min 65535 (c.toNat + 1) ≤ (c.toNat + 1) % 2 ^ 16
    omega

/-- Settles O24. -/
theorem lastAccessCompletesTheRequest : Obligations.LastAccessCompletesTheRequest := by
  intro s r rest running last ends
  obtain ⟨state, -⟩ := inProgress_eq_some running
  by_cases more : last
  · have completes := completeAccess_of_last running more (accessReads s)
    have left := left_leaveQueue s.part rest
    obtain ⟨d, new, follows, later, freed⟩ :=
      ended_follows left state (some (s.part.store.got ++ accessReads s)) (r := r)
    have run : exec .accessComplete s = .next { s with
        part := goOn (finishRequest (leaveQueue s.part rest) r (some (s.part.store.got ++ accessReads s)))
        sram := accessWrites s } := by
      rw [← completes]
      rfl
    refine ⟨_, new, run, rfl, rfl, later.firstFault, follows, fun h => absurd more h, fun _ wanted => ?_⟩
    intro full answered
    refine ⟨fun h x kind => writeSlotFreed_of_later later (freed h x kind wanted),
      fun key f kind found fresh => fetched_ended left wanted kind found fresh,
      fun ph k kind => lookback_ended left wanted kind, fun c hc => ?_⟩
    obtain ⟨write, read, record⟩ := answered_ended (p := leaveQueue s.part rest) (full := full) hc wanted
    exact ⟨write, read, record⟩
  · have completes := completeAccess_of_fault running more (ends.resolve_left more) (accessReads s)
    let p := if r.withdrawn then leaveQueue s.part rest else countFaulted (leaveQueue s.part rest)
    have left : Left s.part p rest := by
      simp only [p]
      split <;> exact ⟨rfl, ⟨rfl, rfl⟩, rfl, rfl, ⟨rfl, rfl⟩, rfl, rfl, rfl, rfl, rfl⟩
    have firstFault : p.store.firstFault = s.part.store.firstFault := by
      simp only [p]
      split <;> rfl
    obtain ⟨d, new, follows, later, freed⟩ := ended_follows left state none (r := r)
    have run : exec .accessComplete s = .next { s with
        part := goOn (finishRequest p r none), sram := accessWrites s } := by
      rw [← completes]
      rfl
    refine ⟨_, new, run, rfl, rfl, later.firstFault.trans firstFault, follows, fun _ => ⟨faultDelivered_ended left later freed, fun wanted => ?_⟩,
      fun h => absurd h more⟩
    have counted : p.store.counters.faulted = inc s.part.store.counters.faulted := by
      simp only [p, wanted]
      rfl
    exact (counted ▸ min_le_inc _).trans later.faulted

/-! ## The timeout of an access (R60, R61) -/

theorem raiseAlarm_heads (p : Part) (k : AlarmKind) (s : AlarmSource) (x : Option Subject) (h : Side) :
    (raiseAlarm p k s x).ahu.heads.get h = addHeadReason k s h (p.ahu.heads.get h) := by
  have added : ∀ q : Part, (addReasons q k s).ahu.heads.get h = addHeadReason k s h (q.ahu.heads.get h) := fun q => by
    cases h <;> simp [addReasons, Two.set, Two.get]
  unfold raiseAlarm
  split
  next =>
    simp only [raiseNew, followJoin, modPanels_ahu, offerAlarm_ahu, added]
    simp [countAlarms, setAlarms]
  next =>
    simp only [raiseAgain, followChange, modPanels_ahu, offerAlarm_ahu, added]
    simp [countAlarms]

/-- The part whose access in progress has timed out, before the completion is delivered. -/
def timedOut (p : Part) (r : Request) (rest : List Request) : Part :=
  raiseAlarm (captureFault (countStore (leaveQueue p rest) fun c => { c with timeouts := inc c.timeouts })
    (accessAddress p.store.config r p.store.done) (classCode r.kind)) .storeFault .store none

theorem timeoutAccess_of_inProgress {p : Part} {r : Request} {rest : List Request} (h : inProgress p = some (r, rest)) :
    timeoutAccess p = goOn (finishRequest (timedOut p r rest) r none) := by
  simp [timeoutAccess, h, timedOut]

theorem captureFault_eq (p : Part) (addr cls : Nat) :
    captureFault p addr cls =
      setStore p { p.store with firstFault := some (p.store.firstFault.getD ⟨addr, cls, p.time⟩) } := by
  unfold captureFault
  split
  next h => rw [h, Option.getD_none]
  next x h =>
    rw [h, Option.getD_some, ← h]
    rfl

theorem timedOut_store (p : Part) (r : Request) (rest : List Request) :
    (timedOut p r rest).store = { p.store with
      queue := rest, done := 0, got := []
      counters := { p.store.counters with timeouts := inc p.store.counters.timeouts }
      firstFault := some (p.store.firstFault.getD
        ⟨accessAddress p.store.config r p.store.done, classCode r.kind, p.time⟩) } := by
  rw [timedOut, raiseAlarm_store, captureFault_eq]
  rfl

theorem left_timedOut (p : Part) (r : Request) (rest : List Request) : Left p (timedOut p r rest) rest := by
  have kept : Keeps (.store :: .growth :: .records :: raiseBroken) p (timedOut p r rest) :=
    ((keeps_leaveQueue p rest).trans (keeps_setStore_any _ _)).trans
      ((keeps_captureFault _ _ _).trans (keeps_raiseAlarm _ _ _ _)) |>.mono
  have store := timedOut_store p r rest
  exact ⟨by rw [store], by rw [store]; exact ⟨rfl, rfl⟩, by rw [store], by rw [store], by rw [store]; exact ⟨rfl, rfl⟩,
    kept .time (by decide), kept .cu (by decide), kept .map (by decide), kept .pru (by decide),
    kept .station (by decide)⟩

/-- Settles O27. -/
theorem accessTimeoutHoldsBothHeads : Obligations.AccessTimeoutHoldsBothHeads := by
  intro s r rest running
  obtain ⟨state, -⟩ := inProgress_eq_some running
  have times := timeoutAccess_of_inProgress running
  have store := timedOut_store s.part r rest
  obtain ⟨d, new, follows, later, freed⟩ := ended_follows (left_timedOut s.part r rest) state none (r := r)
  have ended : Keeps (.cu :: .growth :: .records :: deliverBroken) (timedOut s.part r rest)
      (goOn (finishRequest (timedOut s.part r rest) r none)) :=
    (keeps_finishRequest_any _ r none).andThen (keeps_goOn _)
  have run : exec .accessTimeout s =
      .next { s with part := goOn (finishRequest (timedOut s.part r rest) r none) } := by
    rw [← times]
    rfl
  refine ⟨_, new, run, follows, faultDelivered_ended (left_timedOut s.part r rest) later freed, ?_, ?_, fun h => ?_, ?_, ?_, rfl, rfl⟩
  · exact later.timeouts.trans (by rw [store])
  · exact later.firstFault.trans (by rw [store])
  · refine ended .storeHold (by decide) h ?_
    rw [timedOut, raiseAlarm_heads]
    rfl
  · obtain ⟨a, ha, kind, source, -⟩ := exists_raised (captureFault (countStore (leaveQueue s.part rest)
      fun c => { c with timeouts := inc c.timeouts }) (accessAddress s.part.store.config r s.part.store.done)
      (classCode r.kind)) .storeFault .store none
    obtain ⟨b, hb, kind', source'⟩ := ended .kinds (by decide) a ha
    exact ⟨b, hb, kind'.trans kind, source'.trans source⟩
  · have raised : (timedOut s.part r rest).bm.groups = s.part.bm.groups :=
      ((((keeps_leaveQueue s.part rest).trans (keeps_setStore_any _ _)).trans
        ((keeps_captureFault _ _ _).trans (keeps_raiseAlarm _ _ _ _))) .groups (by decide))
    exact (ended .groups (by decide)).trans raised

/-! ## The beginning of a drain (R54) -/

/-- A request behind the head leaves the queue alone (log entry 13). -/
theorem drainRequest_untouched {p : Part} (h : p.store.state = .draining) (r : Request) :
    Untouched { p.store with queue := p.store.queue.eraseIdx 1 } (drainRequest p r).store := by
  let q := if r.withdrawn then leaveBehindHead p else countFaulted (leaveBehindHead p)
  have taken : Untouched { p.store with queue := p.store.queue.eraseIdx 1 } q.store := by
    simp only [q]
    split <;> exact ⟨rfl, rfl, rfl, rfl, rfl, rfl⟩
  have draining : q.store.state = .draining := taken.state.trans h
  obtain ⟨d, new, grown, -⟩ := growth_finishRequest q r none
  exact taken.trans (grown.untouched (by rw [draining]; rfl)).2

theorem foldl_drainRequest_untouched : ∀ (rs : List Request) (p : Part), p.store.state = .draining →
    p.store.queue.length - 1 = rs.length →
    Untouched { p.store with queue := p.store.queue.take 1 } (rs.foldl drainRequest p).store
  | [], p, _, length => by
    have all : p.store.queue.take 1 = p.store.queue :=
      List.take_of_length_le (by simp only [List.length_nil] at length; omega)
    rw [all]
    exact ⟨rfl, rfl, rfl, rfl, rfl, rfl⟩
  | r :: rs, p, draining, length => by
    have one := drainRequest_untouched draining r
    simp only [List.length_cons] at length
    have rest := foldl_drainRequest_untouched rs (drainRequest p r) (one.state.trans draining) (by
      rw [one.queue, List.length_eraseIdx_of_lt (by omega)]
      omega)
    have head : (drainRequest p r).store.queue.take 1 = p.store.queue.take 1 := by
      rw [one.queue]
      cases p.store.queue with
      | nil => rfl
      | cons x xs => rfl
    exact ⟨rest.queue.trans head, rest.state.trans one.state, rest.config.trans one.config,
      rest.firstFault.trans one.firstFault, rest.wb.trans one.wb, rest.wp.trans one.wp⟩

theorem beginDrain_untouched (p : Part) :
    Untouched { p.store with state := .draining, queue := p.store.queue.take 1 } (beginDrain p).store := by
  let draining := setStore p { p.store with state := .draining }
  let flushed := flushWrites draining
  have flush : flushed.store = draining.store := keeps_flushWrites draining .store (by decide)
  obtain ⟨_, pumped⟩ := keeps_pumpPulls flushed .growth (by decide)
  have before := (pumped.untouched (by rw [flush]; rfl)).2
  rw [flush] at before
  have drained := foldl_drainRequest_untouched (p.store.queue.drop 1) (pumpPulls flushed)
    (before.state.trans rfl) (by rw [before.queue, List.length_drop]; rfl)
  obtain ⟨_, issued⟩ := keeps_examineBoth ((p.store.queue.drop 1).foldl drainRequest (pumpPulls flushed)) .growth
    (by decide)
  have after := (issued.untouched (by rw [drained.state, show (pumpPulls flushed).store.state = _ from before.state]; rfl)).2
  have both := drained.trans after
  exact ⟨both.queue.trans (congrArg (List.take 1) before.queue), both.state.trans before.state,
    both.config.trans before.config, both.firstFault.trans before.firstFault, both.wb.trans before.wb,
    both.wp.trans before.wp⟩

/-- Settles O31. -/
theorem disablingABusyStoreDrains : Obligations.DisablingABusyStoreDrains := by
  refine ⟨fun p busy => ?_, fun p head r rest draining queue => ?_⟩
  · have begins : storeOff p = beginDrain (setStore p { p.store with firstFault := none }) := by
      simp [storeOff, busy]
    have drained := beginDrain_untouched (setStore p { p.store with firstFault := none })
    rw [← begins] at drained
    exact ⟨drained.state, drained.queue, drained.firstFault, drained.config, drained.wb, drained.wp⟩
  · have drained := drainRequest_untouched draining r
    have left : (drainRequest p r).store.queue = head :: rest := by
      rw [drained.queue, queue]
      rfl
    exact ⟨drained.state.trans draining, left, by rw [pullPlaces, left], drained.config, drained.wb, drained.wp⟩

end Sys2Proof.Machine
end


section
/-! PROOFS. Channels off (O38), and the opening and closing of contexts (O37). -/

namespace Sys2Proof.Machine

-- One proof after another: every thread of a compile reserves its own stack.
set_option Elab.async false

/-! ## A context that lets its unit go (R23, R26) -/

/-- The bond groups, the other channel and all but the counters of the channel of head `h` are as they were. -/
structure CountsOnly (h : Side) (p q : Part) : Prop where
  groups : q.bm.groups = p.bm.groups
  other : q.bm.channels.get h.other = p.bm.channels.get h.other
  own : ∃ k, q.bm.channels.get h = { p.bm.channels.get h with counters := k }

theorem CountsOnly.of_bm {h : Side} {p q : Part} (same : q.bm = p.bm) : CountsOnly h p q :=
  ⟨by rw [same], by rw [same], _, by rw [same]⟩

theorem CountsOnly.trans {h : Side} {p q r : Part} (a : CountsOnly h p q) (b : CountsOnly h q r) :
    CountsOnly h p r := by
  obtain ⟨k, hk⟩ := a.own
  obtain ⟨m, hm⟩ := b.own
  exact ⟨b.groups.trans a.groups, b.other.trans a.other, m, by rw [hm, hk]⟩

theorem countsOnly_countChannel (p : Part) (h : Side) (f : ChannelCounters → ChannelCounters) :
    CountsOnly h p (countChannel p h f) :=
  ⟨rfl, Two.get_set_other .., _, Two.get_set_same ..⟩

/-- A bond without a unit, or whose strip is no longer found, counts as outside (R23). -/
theorem releaseUnit_outside {p : Part} {u : Option UnitRef} (lost : u.bind (fun u => locate p u.strip) = none)
    (h : Side) (m : UnitMark) (passed : Option Bool) :
    releaseUnit p h u m passed = countChannel p h fun c => { c with outsideUnit := inc c.outsideUnit } := by
  unfold releaseUnit
  split
  next found => rw [lost] at found; cases found
  next => rfl

/-- The release of a unit that is found leaves the Bond Monitor (R23, R26). -/
theorem releaseUnit_bm_of_found {p : Part} {u : UnitRef} {x : Place} (found : locate p u.strip = some x) (h : Side)
    (m : UnitMark) (passed : Option Bool) : (releaseUnit p h (some u) m passed).bm = p.bm := by
  have released := fun f g => ((keeps_modUnitAt p x u.unit f).trans (keeps_modRecord _ g x)).trans
    (keeps_closeUnit (modRecord (modUnitAt p x u.unit f) g x) x u.unit)
  simp only [releaseUnit, Option.bind_some, found]
  split
  next => exact ((released _ _).trans (keeps_examineMove _ _)) .bm (by decide)
  next => exact released _ _ .bm (by decide)
  next => exact released _ _ .bm (by decide)

theorem countsOnly_releaseUnit (p : Part) (h : Side) (u : Option UnitRef) (m : UnitMark) (passed : Option Bool) :
    CountsOnly h p (releaseUnit p h u m passed) := by
  cases lost : u.bind fun u => locate p u.strip with
  | none =>
    rw [releaseUnit_outside lost]
    exact countsOnly_countChannel p h _
  | some x =>
    obtain ⟨v, rfl, found⟩ := Option.bind_eq_some_iff.1 lost
    exact .of_bm (releaseUnit_bm_of_found found h m passed)

theorem countsOnly_releaseAll (h : Side) (m : UnitMark) (ref : Fin 4 → Option UnitRef) :
    ∀ (is : List (Fin 4)) (p : Part),
      CountsOnly h p (is.foldl (fun p i => releaseUnit p h (ref i) m none) p)
  | [], _ => .of_bm rfl
  | i :: is, p => (countsOnly_releaseUnit p h (ref i) m none).trans (countsOnly_releaseAll h m ref is _)

/-- Settles O38. -/
theorem channelOffFreesItsContexts : Obligations.ChannelOffFreesItsContexts := by
  intro p h on
  let cleared := modChannel (withdrawLookups p (ofChannel h)) h fun ch => { clearContexts ch with on := false }
  have off : setChannel p h false = (p.bm.channels.get h).order.foldl
      (fun q i => releaseUnit q h (refOf (p.bm.channels.get h) i) .suspect none) cleared := by
    simp only [setChannel, on, Bool.true_eq_false, Bool.false_eq_true, if_false]
    rfl
  have released := countsOnly_releaseAll h .suspect (refOf (p.bm.channels.get h)) (p.bm.channels.get h).order cleared
  rw [← off] at released
  obtain ⟨groups, other, k, own⟩ := released
  have emptied : cleared.bm.channels.get h = { clearContexts (p.bm.channels.get h) with on := false } :=
    Two.get_set_same ..
  rw [own, emptied]
  exact ⟨rfl, fun i => replicate_get .., rfl, rfl, rfl, other.trans (Two.get_set_other ..), groups⟩

/-! ## Closing a context (R7, R12, R14) -/

/-- Two changes of one context in use are one. -/
theorem modContext_modContext {p : Part} {h : Side} {i : Fin 4} {c : Context}
    (hc : (p.bm.channels.get h).contexts.get i = some c) (f g : Context → Context) :
    modContext (modContext p h i f) h i g = modContext p h i fun _ => g (f c) := by
  have once : ∀ v : Vector (Option Context) 4, v.get i = some c →
      vmod (vmod v i (Option.map f)) i (Option.map g) = vmod v i (Option.map fun _ => g (f c)) := fun v hv => by
    simp only [vmod, vset_get_same, hv, Option.map_some]
    simp [vset]
  have channels : ∀ t : Two Channel, (t.get h).contexts.get i = some c →
      (t.set h { t.get h with contexts := vmod (t.get h).contexts i (Option.map f) }).set h
        { (t.get h) with contexts := vmod (vmod (t.get h).contexts i (Option.map f)) i (Option.map g) } =
      t.set h { t.get h with contexts := vmod (t.get h).contexts i (Option.map fun _ => g (f c)) } := fun t ht => by
    rw [once _ ht]
    cases h <;> rfl
  simp only [modContext, modChannel, setBm_bm, Two.get_set_same]
  exact congrArg (fun t => setBm p { p.bm with channels := t }) (channels _ hc)

/-- A context that closes with its lookup RESOLVED is judged (R14). -/
def judgedOnClose (groups : Vector BondGroup 64) (c : Context) : Context :=
  match c.lookup with
  | .resolved r => { c with state := .judged (judgement groups c r), marks := judgedMarks c r }
  | .pending | .waitingForFetchPlace => c

theorem judgeContext_of_closed {c : Context} (closed : c.state = .closed) (groups : Vector BondGroup 64) :
    judgeContext groups c = judgedOnClose groups c := by
  unfold judgeContext judgedOnClose
  rw [closed]
  cases c.lookup <;> rfl

/-- A change that closes a context, its judgement and the examination that follows. -/
theorem judgeAndIssue_of_closing {p : Part} {h : Side} {i : Fin 4} {c : Context}
    (hc : (p.bm.channels.get h).contexts.get i = some c) {f : Context → Context} (closed : (f c).state = .closed) :
    judgeAndIssue (modContext p h i f) h i =
      examineIssue (modContext p h i fun _ => judgedOnClose p.bm.groups (f c)) h := by
  rw [judgeAndIssue, modContext_modContext hc, judgeContext_of_closed closed]
  rfl

theorem bondOpen_of_on {p : Part} {h : Side} {pl : List Byte} (named : side? (byteAt pl 0) = some h)
    (on : (p.bm.channels.get h).on = true) :
    bondOpen p h pl = match vfind Option.isNone ((closeByOpen p h).bm.channels.get h).contexts with
      | some i => takeContext (closeByOpen p h) h i (openFields pl)
      | none => overrun (closeByOpen p h) h (openFields pl).wire := by
  exact (if_neg (by simp [named])).trans (if_neg (by simp [on]))

theorem bondClose_of_on {p : Part} {h : Side} {pl : List Byte} (named : side? (byteAt pl 0) = some h)
    (on : (p.bm.channels.get h).on = true) :
    bondClose p h pl = match openContextOf (p.bm.channels.get h) (BitVec.ofNat 16 (word16At pl 1)) with
      | none => strayClose p h (BitVec.ofNat 16 (word16At pl 1))
      | some i => judgeAndIssue (modContext p h i (closeContext (word16At pl 3))) h i := by
  exact (if_neg (by simp [named])).trans (if_neg (by simp [on]))

/-! ## The ACTIVE unit (R6, R8) -/

theorem activeUnit_congr {p q : Part} (same : q.st = p.st) (h : Side) : activeUnit q h = activeUnit p h := by
  rw [activeUnit, activeUnit, same]

theorem modActive_of_none {p : Part} {h : Side} (none : activeUnit p h = none) (f : UnitEntry → UnitEntry) :
    modActive p h f = p := by
  rw [modActive, none]

theorem modify_of_getElem? {α : Type} {xs : List α} {i : Nat} {x : α} (hx : xs[i]? = some x) (f : α → α) :
    xs.modify i f = xs.set i (f x) := by
  obtain ⟨hlt, rfl⟩ := List.getElem?_eq_some_iff.1 hx
  rw [List.modify_eq_set_getElem?]
  simp [hlt]

theorem modActive_bond {p : Part} {h : Side} {b : Strip} {u : UnitRef} {e : UnitEntry}
    (bond : (p.st.lanes.get h).bond = some b) (active : activeUnit p h = some u) (entry : b.units[u.unit]? = some e)
    (f : UnitEntry → UnitEntry) :
    ((modActive p h f).st.lanes.get h).bond = some { b with units := b.units.set u.unit (f e) } := by
  rw [modActive, active, ← modify_of_getElem? entry]
  simp [modUnitAt, modRecord, setPosition, atPosition, bond]

/-! ## Taking a context (R6) -/

theorem enqueue_store_congr {p q : Part} (store : q.store = p.store) (r : Request) :
    (enqueue q r).store = (enqueue p r).store := by
  rw [enqueue, enqueue, store]
  split <;> rfl

theorem startFetch_congr {p q : Part} (map : q.map = p.map) (store : q.store = p.store) (key : MapKey)
    (ws : List Waiter) :
    (startFetch q key ws).map = (startFetch p key ws).map ∧ (startFetch q key ws).store = (startFetch p key ws).store := by
  have request : fetchRequest q key = fetchRequest p key := by rw [fetchRequest, fetchRequest, store]
  simp only [startFetch, setMap_map, setMap_store, enqueue_map, map, request, enqueue_store_congr store, and_self]

/-- What an examination of a lookup brings depends on the map cache and the store alone. -/
theorem examineLookup_congr {p q : Part} (map : q.map = p.map) (store : q.store = p.store) (key : MapKey) (w : Waiter)
    (onList : Bool) :
    (examineLookup q key w onList).2 = (examineLookup p key w onList).2 ∧
    (examineLookup q key w onList).1.map = (examineLookup p key w onList).1.map ∧
    (examineLookup q key w onList).1.store = (examineLookup p key w onList).1.store := by
  have serves : ∀ f, inService (countMap q f) = inService (countMap p f) := fun f => by
    show inService q = inService p
    rw [inService, inService, store]
  have counted : ∀ f, (countMap q f).map = (countMap p f).map := fun f => by simp only [countMap, setMap_map, map]
  unfold examineLookup
  rw [map]
  cases cachedEntry p.map key with
  | some e => exact ⟨rfl, counted _, store⟩
  | none =>
    dsimp only
    rw [serves]
    split
    next => exact ⟨rfl, rfl, store⟩
    next =>
      split
      next =>
        split
        next => exact ⟨rfl, startFetch_congr (counted _) store key _⟩
        next =>
          refine ⟨rfl, ?_, ?_⟩
          · simp only [faultFetch, countMap, countFaulted, countStore, setMap_map, setStore_map, map]
          · simp only [faultFetch, countMap, countFaulted, countStore, setMap_store, setStore_store, store]
      next =>
        split
        next => exact ⟨rfl, map, store⟩
        next => exact ⟨rfl, rfl, store⟩

theorem startLookup_congr {p q : Part} (map : q.map = p.map) (store : q.store = p.store) (key : MapKey) (x : Party) :
    (startLookup q key x).2 = (startLookup p key x).2 ∧
    (startLookup q key x).1.map = (startLookup p key x).1.map ∧
    (startLookup q key x).1.store = (startLookup p key x).1.store := by
  unfold startLookup
  rw [map]
  refine examineLookup_congr ?_ ?_ key _ false
  · rfl
  · exact store

/-- The context taken, with its lookup as examined, and what has stayed (R6). -/
theorem takeContext_spec (r : Part) (h : Side) (i : Fin 4) (f : OpenFields) :
    let q := takeContext r h i f
    let out := startLookup r ⟨(r.st.lanes.get h).config.bank, f.wire⟩ (.ctx h i)
    q.bm.channels.get h = { r.bm.channels.get h with
      order := (r.bm.channels.get h).order ++ [i]
      contexts := vset (r.bm.channels.get h).contexts i
        (some { freshContext h f (r.st.lanes.get h).config (activeUnit r h) with lookup := out.2 }) } ∧
    q.bm.channels.get h.other = r.bm.channels.get h.other ∧ q.map = out.1.map ∧ q.store = out.1.store ∧
    q.ahu = r.ahu ∧ q.pru = r.pru ∧ q.rp = r.rp ∧ q.st = (modActive r h fun x => { x with refs := x.refs + 1 }).st := by
  intro q out
  let marked := modActive r h fun x => { x with refs := x.refs + 1 }
  let fresh := freshContext h f (r.st.lanes.get h).config (activeUnit r h)
  let taken := modChannel marked h fun ch =>
    { ch with contexts := vset ch.contexts i (some fresh), order := ch.order ++ [i] }
  let looked := startLookup taken ⟨(r.st.lanes.get h).config.bank, f.wire⟩ (.ctx h i)
  have mark := keeps_modActive r h fun x => { x with refs := x.refs + 1 }
  have look := keeps_startLookup taken ⟨(r.st.lanes.get h).config.bank, f.wire⟩ (.ctx h i)
  obtain ⟨outcome, map, store⟩ := startLookup_congr (q := taken) (p := r) (mark .map (by decide))
    (mark .store (by decide)) ⟨(r.st.lanes.get h).config.bank, f.wire⟩ (.ctx h i)
  have channels : looked.1.bm.channels = r.bm.channels.set h { r.bm.channels.get h with
      contexts := vset (r.bm.channels.get h).contexts i (some fresh), order := (r.bm.channels.get h).order ++ [i] } := by
    rw [show looked.1.bm = taken.bm from look .bm (by decide), modChannel_channels,
      show marked.bm = r.bm from mark .bm (by decide)]
  have last : q.bm.channels = looked.1.bm.channels.set h { looked.1.bm.channels.get h with
      contexts := vmod (looked.1.bm.channels.get h).contexts i (Option.map fun c => { c with lookup := looked.2 }) } := rfl
  rw [channels, Two.get_set_same] at last
  refine ⟨?_, ?_, map, store, (look .ahu (by decide)).trans (mark .ahu (by decide)),
    (look .pru (by decide)).trans (mark .pru (by decide)), (look .rp (by decide)).trans (mark .rp (by decide)),
    look .st (by decide)⟩
  · rw [last, Two.get_set_same]
    have fixed : vmod (vset (r.bm.channels.get h).contexts i (some fresh)) i
        (Option.map fun c => { c with lookup := looked.2 }) =
        vset (r.bm.channels.get h).contexts i (some { fresh with lookup := out.2 }) := by
      rw [vmod, vset_get_same, Option.map_some, show looked.2 = out.2 from outcome]
      simp [vset]
    rw [fixed]
  · rw [last, Two.get_set_other, Two.get_set_other]

/-! ## No context free (R8), and stray closes (R13) -/

theorem overrun_spec (r : Part) (h : Side) (wire : Nat) :
    let q := overrun r h wire
    q.bm.channels.get h = { r.bm.channels.get h with
      counters := { (r.bm.channels.get h).counters with
        unmonitored := inc (r.bm.channels.get h).counters.unmonitored } } ∧
    (∃ a ∈ q.ahu.alarms, a.kind = .monitorOverrun ∧ a.source = .head h ∧
      a.subject = (activeUnit r h).map fun u => ⟨some u.strip, some u.unit, some wire⟩) ∧
    q.store = r.store ∧ q.map = r.map ∧ q.pru = r.pru ∧
    q.st = (modActive r h fun u => { u with suspectMark := true }).st := by
  intro q
  let counted := countChannel r h fun c => { c with unmonitored := inc c.unmonitored }
  let raised := raiseAlarm counted .monitorOverrun (.head h) ((activeUnit counted h).map fun u => unitSubject u wire)
  have raise := keeps_raiseAlarm counted .monitorOverrun (.head h) ((activeUnit counted h).map fun u => unitSubject u wire)
  have mark := keeps_modActive raised h fun u => { u with suspectMark := true }
  have st : raised.st = r.st := raise .st (by decide)
  have bm : q.bm = counted.bm := (mark .bm (by decide)).trans (raise .bm (by decide))
  refine ⟨?_, ?_, (mark .store (by decide)).trans (raise .store (by decide)),
    (mark .map (by decide)).trans (raise .map (by decide)), (mark .pru (by decide)).trans (raise .pru (by decide)), ?_⟩
  · rw [bm]
    exact Two.get_set_same ..
  · rw [show q.ahu = raised.ahu from mark .ahu (by decide)]
    exact exists_raised counted .monitorOverrun (.head h) _
  · show (modActive raised h _).st = _
    unfold modActive
    rw [activeUnit_congr st]
    split
    next => exact st
    next u _ => simp only [modUnitAt, modRecord, modLane_st, st]

theorem contextIs_lateCloses_iff (ch : Channel) (n : BitVec 16) (i : Fin 4) :
    contextIs ch (lateCloses n) i = true ↔
      ∃ c, ch.contexts.get i = some c ∧ c.state ≠ .opened ∧ c.closedByOpen = true ∧ c.sequence = n := by
  unfold contextIs
  cases ch.contexts.get i with
  | none => simp
  | some c => simp [lateCloses, isOpen, and_assoc]

theorem strayClose_of_none {p : Part} {h : Side} {n : BitVec 16}
    (found : (p.bm.channels.get h).order.reverse.find? (contextIs (p.bm.channels.get h) (lateCloses n)) = none) :
    strayClose p h n = countChannel p h fun c => { c with strayCloses := inc c.strayCloses } := by
  simp [strayClose, found]

theorem strayClose_of_some {p : Part} {h : Side} {n : BitVec 16} {i : Fin 4}
    (found : (p.bm.channels.get h).order.reverse.find? (contextIs (p.bm.channels.get h) (lateCloses n)) = some i) :
    strayClose p h n = modContext (countChannel p h fun c => { c with strayCloses := inc c.strayCloses }) h i
      fun c => { c with marks := { c.marks with lateClose := true } } := by
  simp [strayClose, found]

theorem find?_reverse_eq_some {α : Type} {q : α → Bool} {xs ys : List α} {x : α} (hx : q x = true)
    (hy : ∀ y ∈ ys, q y = false) : (xs ++ x :: ys).reverse.find? q = some x := by
  rw [List.reverse_append, List.reverse_cons, List.append_assoc]
  exact List.find?_eq_some_iff_append.2 ⟨hx, ys.reverse, xs.reverse, rfl, fun y hm => by
    simpa using hy y (List.mem_reverse.1 hm)⟩

/-- Settles O37. -/
theorem overrunRaisesAnAlarm : Obligations.OverrunRaisesAnAlarm := by
  intro p h pl named on ch n judged closing r q z
  have open_eq := bondOpen_of_on named on
  have close_eq := bondClose_of_on named on
  have judged_eq : judged = judgedOnClose p.bm.groups := rfl
  refine ⟨fun closed => ?_, fun i c isOpen hc => ?_, fun i free lowest => ?_, fun full => ?_, fun i c isOpen hc => ?_,
    fun stray => ?_⟩
  · simp only [r, closeByOpen, show openContext (p.bm.channels.get h) = none from closed]
  · have closes : r = judgeAndIssue (modContext p h i fun c =>
        { c with marks := { c.marks with gapped := true }, closedByOpen := true, state := .closed }) h i := by
      simp only [r, closeByOpen, show openContext (p.bm.channels.get h) = some i from isOpen]
    rw [closes, judgeAndIssue_of_closing hc rfl]
    simp only [closing, judged_eq]
  · have found : vfind Option.isNone (r.bm.channels.get h).contexts = some i :=
      vfind_eq_some (by simp [free]) fun k hk => by simpa [Option.isSome_iff_ne_none] using lowest k hk
    have takes : q = takeContext r h i (openFields pl) := by
      simp only [q, open_eq]
      rw [show closeByOpen p h = r from rfl, found]
    obtain ⟨own, other, map, store, ahu, pru, rp, st⟩ := takeContext_spec r h i (openFields pl)
    simp only [takes]
    refine ⟨own, other, map, store, ahu, pru, rp, fun none => ?_, fun b u e bond active entry => ?_⟩
    · rw [st, modActive_of_none none]
    · rw [st]
      exact modActive_bond bond active entry _
  · have found : vfind Option.isNone (r.bm.channels.get h).contexts = none :=
      vfind_eq_none fun i => by simpa [Option.isSome_iff_ne_none] using full i
    have overruns : q = overrun r h (openFields pl).wire := by
      simp only [q, open_eq]
      rw [show closeByOpen p h = r from rfl, found]
    obtain ⟨own, alarm, store, map, pru, st⟩ := overrun_spec r h (openFields pl).wire
    simp only [overruns]
    refine ⟨own, alarm, store, map, pru, fun none => ?_, fun b u e bond active entry => ?_⟩
    · rw [st, modActive_of_none none]
    · rw [st]
      exact modActive_bond bond active entry _
  · simp only [z, close_eq]
    rw [show openContextOf (p.bm.channels.get h) (BitVec.ofNat 16 (word16At pl 1)) = some i from isOpen]
    simp only [closing, judged_eq]
    exact judgeAndIssue_of_closing hc rfl
  · intro fits strayed
    have strays : z = strayClose p h n := by
      simp only [z, close_eq]
      rw [show openContextOf (p.bm.channels.get h) (BitVec.ofNat 16 (word16At pl 1)) = none from stray]
    have fits_iff : ∀ k, contextIs ch (lateCloses n) k = true ↔ fits k := contextIs_lateCloses_iff ch n
    have misfit : ∀ {k}, ¬fits k → contextIs ch (lateCloses n) k = false := fun h =>
      Bool.eq_false_iff.2 fun e => h ((fits_iff _).1 e)
    refine ⟨fun none => ?_, fun xs i ys order fit later => ?_⟩
    · have found : ch.order.reverse.find? (contextIs ch (lateCloses n)) = .none :=
        List.find?_eq_none.2 fun k hk => by simp [misfit (none k (List.mem_reverse.1 hk))]
      exact strays.trans (strayClose_of_none found)
    · have found : ch.order.reverse.find? (contextIs ch (lateCloses n)) = some i := by
        rw [order]
        exact find?_reverse_eq_some ((fits_iff i).2 fit) fun k hk => misfit (later k hk)
      exact strays.trans (strayClose_of_some found)

end Sys2Proof.Machine
end


section
/-! PROOFS. The close of a reply window (O53). -/

namespace Sys2Proof.Machine

-- One proof after another: every thread of a compile reserves its own stack.
set_option Elab.async false

/-! ## What the end of a turn leaves of the panels (R144, R145) -/

theorem views_of_panels {p q : Part} (same : q.pnc.panels = p.pnc.panels) : Law.Holds p q .views := fun i => by
  rw [same]

theorem startMessage_views (p : Part) (i : Fin 4) (lines : Nat) (m : Message) :
    Law.Holds p (startMessage p i lines m) .views := fun j => by
  rw [startMessage_panels]
  by_cases h : j = i
  · subst h
    rw [vmod_get_same]
    cases m <;> rfl
  · rw [vmod_get_other _ _ _ _ h]

theorem walkFrom_views : ∀ (k : Nat) (p : Part), Law.Holds p (walkFrom k p) .views
  | 0, p => Law.refl p .views
  | k + 1, p => by
    unfold walkFrom
    split
    next => exact views_of_panels rfl
    next =>
      split
      next => exact startMessage_views (setPnc p { p.pnc with madeTurn := true }) _ _ _
      next =>
        have advanced : (advance p.pnc).1.panels = p.pnc.panels := by
          unfold advance
          split <;> rfl
        dsimp only
        split
        next => exact views_of_panels advanced
        next => exact Law.trans (views_of_panels advanced) (walkFrom_views k _)

/-- The walk, which goes on in the end of a turn, comes to no reply window. -/
theorem walkOn_not_listening (p : Part) (v : ReplyWindow) : (walkOn p).pnc.walk ≠ .listening v := by
  by_cases servable : anyServable p.pnc = true
  · rcases walkComesToATurnOrARest p servable with ⟨t, walk, -⟩ | walk <;> simp [walk]
  · have stopped : walkOn p = setWalk p .stopped := by simp [walkOn, walkFrom, servable]
    simp [stopped, setWalk]

theorem endTurn_views (p : Part) : Law.Holds p (endTurn p) .views := by
  have emptied : Law.Holds p (emptyTransmitter p) .views := views_of_panels rfl
  have advanced : (advance (emptyTransmitter p).pnc).1.panels = (emptyTransmitter p).pnc.panels := by
    unfold advance
    split <;> rfl
  unfold endTurn
  dsimp only
  split
  next =>
    exact Law.trans emptied (walkFrom_views 33
      (setPnc (emptyTransmitter p) { (emptyTransmitter p).pnc with position := 0, rewind := false }))
  next =>
    have moved : Law.Holds p (setPnc (emptyTransmitter p) (advance (emptyTransmitter p).pnc).1) .views :=
      Law.trans emptied (views_of_panels advanced)
    split
    next => exact moved
    next => exact Law.trans moved (walkFrom_views 33 _)

theorem endTurn_not_listening (p : Part) (v : ReplyWindow) : (endTurn p).pnc.walk ≠ .listening v := by
  unfold endTurn
  dsimp only
  split
  next => exact walkOn_not_listening _ v
  next =>
    split
    next => simp [setWalk]
    next => exact walkOn_not_listening _ v

/-! ## Misses (R146) -/

/-- The panel of a miss, as counted, and ABSENT at the third in a row. -/
def missed (x : Panel) : Panel :=
  { x with
    missesCount := inc x.missesCount
    misses := if x.present then x.misses + 1 else x.misses
    present := x.present && decide (x.misses + 1 < 3) }

/-- A miss changes its panel alone, but for the marks that an alarm sets, and the third raises PANEL_ABSENT. -/
theorem panelMisses_spec (p : Part) (i : Fin 4) :
    Law.Holds (modPanel p i missed) (panelMisses p i) .views ∧
    ((p.pnc.panels.get i).present = true → 3 ≤ (p.pnc.panels.get i).misses + 1 →
      ∃ a ∈ (panelMisses p i).ahu.alarms, a.kind = .panelAbsent ∧ a.source = .panel i) := by
  let counted := modPanel p i fun x => { x with missesCount := inc x.missesCount }
  have one : counted.pnc.panels.get i =
      { p.pnc.panels.get i with missesCount := inc (p.pnc.panels.get i).missesCount } := vmod_get_same ..
  have of_panels : ∀ {q : Part}, (∀ j, q.pnc.panels.get j = (modPanel p i missed).pnc.panels.get j) →
      Law.Holds (modPanel p i missed) q .views := fun same j => by rw [same j]
  by_cases present : (p.pnc.panels.get i).present = true
  · let m := (p.pnc.panels.get i).misses + 1
    let again := modPanel counted i fun x => { x with misses := m, present := decide (m < missLimit) }
    have misses : panelMisses p i = if m < missLimit then again
        else raiseAlarm again .panelAbsent (.panel i) none := by
      simp only [panelMisses, show modPanel p i _ = counted from rfl, one, present, if_true]
      rfl
    have panel : Law.Holds (modPanel p i missed) again .views := of_panels fun j => by
      by_cases h : j = i
      · subst h
        simp only [again, modPanel, setPnc_pnc, vmod_get_same, missed, present, if_true, Bool.true_and]
        rw [show counted.pnc.panels.get j = _ from one]
        rfl
      · simp [again, counted, modPanel, vmod_get_other _ _ _ _ h]
    rw [misses]
    split
    next few => exact ⟨panel, fun _ third => absurd few (Nat.not_lt.2 third)⟩
    next =>
      refine ⟨Law.trans panel (keeps_raiseAlarm_quiet rfl again _ _ .views (by decide)), fun _ _ => ?_⟩
      obtain ⟨a, ha, kind, source, -⟩ := exists_raised again .panelAbsent (.panel i) none
      exact ⟨a, ha, kind, source⟩
  · have misses : panelMisses p i = counted := by
      simp only [panelMisses, show modPanel p i _ = counted from rfl, one, present]
      rfl
    rw [misses]
    refine ⟨of_panels fun j => ?_, fun h => absurd h present⟩
    by_cases h : j = i
    · subst h
      rw [one]
      simp [modPanel, missed, present]
    · simp [counted, modPanel, vmod_get_other _ _ _ _ h]

theorem judgeReply_of_silent {cs : List RxMarked} (h : judgeReply cs = .silent) : cs = [] :=
  (replyIsJudgedByItsCharacters cs).1.1 h

/-! ## Answers (R126, R146) -/

/-- A panel whose dirty lines `y` keeps: none is lost, and all stay all. -/
def DirtyKept (x y : Panel) : Prop := (∀ l ∈ x.dirty, l ∈ y.dirty) ∧ (x.dirty = allLines → y.dirty = allLines)

theorem DirtyKept.of_eq {x y : Panel} (same : y.dirty = x.dirty) : DirtyKept x y :=
  ⟨fun _ h => same ▸ h, fun h => same.trans h⟩

theorem DirtyKept.trans {x y z : Panel} (h : DirtyKept x y) (h' : DirtyKept y z) : DirtyKept x z :=
  ⟨fun l hl => h'.1 l (h.1 l hl), fun all => h'.2 (h.2 all)⟩

theorem dirtyKept_markLines (x : Panel) (f : Fin 8 → Bool) : DirtyKept x (markLines x f) := by
  refine ⟨fun l hl => List.mem_filter.2 ⟨mem_allLines l, by simp [hl]⟩, fun all => ?_⟩
  exact List.filter_eq_self.2 fun l hl => by simp [all, hl]

theorem dirtyKept_markAlarmLines (x : Panel) : DirtyKept x (markAlarmLines x) := by
  unfold markAlarmLines
  split
  next => exact dirtyKept_markLines x _
  next => exact .of_eq rfl

theorem dirtyKept_setSelection (x : Panel) (n : Option (BitVec 16)) : DirtyKept x (setSelection x n) := by
  unfold setSelection
  split
  next => exact .of_eq rfl
  next => exact dirtyKept_markAlarmLines { x with selection := n }

theorem dirtyKept_tracked (f : Part → Part) (p : Part) (i : Fin 4) :
    DirtyKept ((f p).pnc.panels.get i) ((tracked f p).pnc.panels.get i) := by
  simp only [tracked, markLive, modPanels, setPnc_pnc, vmap_get]
  split
  next => exact dirtyKept_markLines _ _
  next => exact .of_eq rfl

theorem dirtyKept_takeOutAlarm (p : Part) (a : Alarm) (i : Fin 4) :
    DirtyKept (p.pnc.panels.get i) ((takeOutAlarm p a).pnc.panels.get i) := by
  have taken : DirtyKept (p.pnc.panels.get i)
      ((setAlarms p (p.ahu.alarms.filter fun b => b.number != a.number)).pnc.panels.get i) :=
    dirtyKept_tracked (fun q => setAhu q { q.ahu with alarms := p.ahu.alarms.filter fun b => b.number != a.number }) p i
  refine taken.trans ?_
  simp only [takeOutAlarm, followDeparture, modPanels, setPnc_pnc, vmap_get]
  split
  next =>
    refine DirtyKept.trans ?_ (dirtyKept_markAlarmLines _)
    split
    next => exact dirtyKept_setSelection _ _
    next => exact .of_eq rfl
  next => exact .of_eq rfl

theorem removeAbsent_of_some {p : Part} {i : Fin 4} {a : Alarm}
    (h : p.ahu.alarms.find? (sameAlarm .panelAbsent (.panel i)) = some a) :
    removeAbsent p i = offerAlarm (takeOutAlarm p a) .removed a := by
  simp [removeAbsent, h]

theorem removeAbsent_of_none {p : Part} {i : Fin 4}
    (h : p.ahu.alarms.find? (sameAlarm .panelAbsent (.panel i)) = none) : removeAbsent p i = p := by
  simp [removeAbsent, h]

theorem keeps_removeAbsent (p : Part) (i : Fin 4) :
    Keeps [.rp, .ahu, .kinds, .bondAlarms, .pnc] p (removeAbsent p i) := by
  cases h : p.ahu.alarms.find? (sameAlarm .panelAbsent (.panel i)) with
  | none =>
    rw [removeAbsent_of_none h]
    exact .refl _ p
  | some a =>
    rw [removeAbsent_of_some h]
    exact (keeps_takeOutAlarm p a).andThen (keeps_offerAlarm _ .removed a)

theorem dirtyKept_removeAbsent (p : Part) (i j : Fin 4) :
    DirtyKept (p.pnc.panels.get j) ((removeAbsent p i).pnc.panels.get j) := by
  cases h : p.ahu.alarms.find? (sameAlarm .panelAbsent (.panel i)) with
  | none =>
    rw [removeAbsent_of_none h]
    exact .of_eq rfl
  | some a =>
    rw [removeAbsent_of_some h, show (offerAlarm (takeOutAlarm p a) .removed a).pnc = (takeOutAlarm p a).pnc from
      keeps_offerAlarm _ .removed a .pnc (by decide)]
    exact dirtyKept_takeOutAlarm p a j

theorem alarms_apart {as : List Alarm} (unique : AlarmsUnique as) {a b : Alarm} (ha : a ∈ as) (hb : b ∈ as)
    (other : a ≠ b) : ¬(a.kind = b.kind ∧ a.source = b.source) := by
  have : Std.Symm fun a b : Alarm => ¬(a.kind = b.kind ∧ a.source = b.source) :=
    ⟨fun _ _ h e => h ⟨e.1.symm, e.2.symm⟩⟩
  exact unique.forall ha hb other

/-- The PANEL_ABSENT entry of the panel, and no other, leaves the list (R126). -/
theorem removeAbsent_alarms {p : Part} (i : Fin 4) (unique : AlarmsUnique p.ahu.alarms)
    (numbers : (p.ahu.alarms.map Alarm.number).Nodup) :
    (removeAbsent p i).ahu.alarms = p.ahu.alarms.filter fun b => !(b.kind == .panelAbsent && b.source == .panel i) := by
  cases h : p.ahu.alarms.find? (sameAlarm .panelAbsent (.panel i)) with
  | none =>
    rw [removeAbsent_of_none h]
    exact (List.filter_eq_self.2 fun b hb => by
      rw [Bool.not_eq_true', ← Bool.not_eq_true]
      exact List.find?_eq_none.1 h b hb).symm
  | some a =>
    have mem := List.mem_of_find?_eq_some h
    have same : sameAlarm .panelAbsent (.panel i) a = true := List.find?_some h
    rw [removeAbsent_of_some h, show (offerAlarm (takeOutAlarm p a) .removed a).ahu = (takeOutAlarm p a).ahu from
      keeps_offerAlarm _ .removed a .ahu (by decide), takeOutAlarm_alarms]
    refine List.filter_congr fun b hb => ?_
    have number : b.number = a.number ↔ b = a :=
      ⟨fun e => List.inj_on_of_nodup_map numbers hb mem e, fun e => by rw [e]⟩
    have source : sameAlarm .panelAbsent (.panel i) b = true ↔ b = a := by
      refine ⟨fun e => ?_, fun e => e ▸ same⟩
      by_contra other
      rw [sameAlarm_iff] at e same
      exact alarms_apart unique hb mem other ⟨e.1.trans same.1.symm, e.2.trans same.2.symm⟩
    rw [Bool.eq_iff_iff]
    show (b.number != a.number) = true ↔ (!sameAlarm .panelAbsent (.panel i) b) = true
    simp only [bne_iff_ne, ne_eq, number, Bool.not_eq_true', ← Bool.not_eq_true, source]

theorem keeps_panelAnswers_blocks (p : Part) (i : Fin 4) :
    Keeps [.rp, .ahu, .kinds, .bondAlarms, .pnc, .line, .views] p (panelAnswers p i) :=
  (keeps_modPanel p i _).andThen (keeps_removeAbsent _ i)

/-- A part whose other blocks have stayed. -/
theorem eq_of_blocks {p q : Part} (time : q.time = p.time) (cu : q.cu = p.cu) (bm : q.bm = p.bm) (map : q.map = p.map)
    (store : q.store = p.store) (st : q.st = p.st) (pru : q.pru = p.pru) :
    q = { p with rp := q.rp, ahu := q.ahu, pnc := q.pnc } := by
  rw [← time, ← cu, ← bm, ← map, ← store, ← st, ← pru]

/-- The panel that answers, but for the marks and the selection that the alarm's departure sets. -/
def answering (x : Panel) : Panel :=
  if x.present then { x with misses := 0 } else markAllLines { x with misses := 0, present := true }

theorem panelAnswers_panel (p : Part) (i : Fin 4) :
    (modPanel p i answering).pnc.panels.get i = answering (p.pnc.panels.get i) := vmod_get_same ..

theorem closeWindow_of_listening {p : Part} {w : ReplyWindow} (h : p.pnc.walk = .listening w) :
    closeWindow p = endTurn (judgeWindow w p) := by
  simp [closeWindow, h]

/-- Settles O53. -/
theorem silentWindowIsAMiss : Obligations.SilentWindowIsAMiss := by
  intro s w open_
  have run : ∀ q, judgeWindow w s.part = q → exec .replyWindowClose s = .next { s with part := endTurn q } :=
    fun q judged => by
      rw [← judged, ← closeWindow_of_listening open_]
      rfl
  refine ⟨fun miss => ?_, fun keys valid => ?_⟩
  · let erred : Panel → Panel := fun x =>
      if w.chars = [] then x else { x with errorsCount := inc x.errorsCount }
    let p := if w.chars = [] then s.part else modPanel s.part w.panel fun x => { x with errorsCount := inc x.errorsCount }
    have judged : judgeWindow w s.part = panelMisses p w.panel := by
      rcases miss with silent | discarded
      · rw [judgeWindow, silent, show p = s.part from if_pos (judgeReply_of_silent silent)]
      · have some : w.chars ≠ [] := fun e => by
          rw [e] at discarded
          cases discarded
        simp only [judgeWindow, discarded, p, some, if_false]
    have before : Keeps lineBroken s.part p := by
      simp only [p]
      split
      next => exact .refl _ _
      next => exact keeps_modPanel _ _ _
    have x : p.pnc.panels.get w.panel = erred (s.part.pnc.panels.get w.panel) := by
      simp only [p, erred]
      split
      next => rfl
      next => exact vmod_get_same ..
    obtain ⟨views, third⟩ := panelMisses_spec p w.panel
    have y := Law.trans views (endTurn_views (panelMisses p w.panel)) w.panel
    rw [show (modPanel p w.panel missed).pnc.panels.get w.panel = missed (p.pnc.panels.get w.panel) from
      vmod_get_same .., x] at y
    have errs : ∀ z : Panel, (erred z).missesCount = z.missesCount ∧ (erred z).misses = z.misses ∧
        (erred z).present = z.present ∧
        (erred z).errorsCount = if w.chars = [] then z.errorsCount else inc z.errorsCount := fun z => by
      simp only [erred]
      split <;> exact ⟨rfl, rfl, rfl, rfl⟩
    obtain ⟨count, misses, present, errors⟩ := errs (s.part.pnc.panels.get w.panel)
    have kept : Keeps missBroken s.part (endTurn (panelMisses p w.panel)) :=
      (before.trans (keeps_panelMisses p w.panel)).andThen (keeps_endTurn _)
    refine ⟨_, run _ judged, ⟨?_, ?_, ?_, ?_, fun here three => ?_⟩, fun v hv => endTurn_not_listening _ v hv,
      kept .heads (by decide), kept .time (by decide), kept .cu (by decide), kept .bm (by decide),
      kept .map (by decide), kept .store (by decide), kept .st (by decide), kept .pru (by decide), rfl, rfl⟩
    · exact (congrArg Panel.missesCount y).trans (congrArg inc count)
    · exact (congrArg Panel.errorsCount y).trans errors
    · exact (congrArg Panel.misses y).trans (by simp only [missed, misses, present])
    · exact (congrArg Panel.present y).trans (by simp only [missed, misses, present])
    · have ahu : (endTurn (panelMisses p w.panel)).ahu = (panelMisses p w.panel).ahu :=
        keeps_endTurn _ .ahu (by decide)
      show ∃ a ∈ (endTurn (panelMisses p w.panel)).ahu.alarms, _
      rw [ahu]
      exact third (by rw [x, present]; exact here) (by rw [x, misses]; exact three)
  · have judged : judgeWindow w s.part = if w.dropKeys then panelAnswers s.part w.panel
        else keys.foldl (fun p k => keyEffect w.panel k p) (panelAnswers s.part w.panel) := by
      simp only [judgeWindow, valid]
      rfl
    have kept := keeps_panelAnswers_blocks s.part w.panel
    have views : Law.Holds (modPanel s.part w.panel answering) (panelAnswers s.part w.panel) .views :=
      keeps_removeAbsent _ w.panel .views (by decide)
    have y := views w.panel
    rw [panelAnswers_panel] at y
    have dirty : DirtyKept (answering (s.part.pnc.panels.get w.panel))
        ((panelAnswers s.part w.panel).pnc.panels.get w.panel) :=
      panelAnswers_panel s.part w.panel ▸ dirtyKept_removeAbsent (modPanel s.part w.panel answering) w.panel w.panel
    have fields : ∀ z : Panel, (answering z).present = true ∧ (answering z).misses = 0 ∧
        (answering z).page = z.page ∧ (answering z).errorsCount = z.errorsCount ∧
        (answering z).missesCount = z.missesCount ∧ (z.present = false → (answering z).dirty = allLines) ∧
        ∀ l ∈ z.dirty, l ∈ (answering z).dirty := fun z => by
      unfold answering
      split
      next here => exact ⟨here, rfl, rfl, rfl, rfl, fun gone => absurd (here.symm.trans gone) (by decide), fun _ h => h⟩
      next => exact ⟨rfl, rfl, rfl, rfl, rfl, fun _ => rfl, fun l _ => mem_allLines l⟩
    obtain ⟨present, misses, page, errors, count, all, still⟩ := fields (s.part.pnc.panels.get w.panel)
    refine ⟨panelAnswers s.part w.panel, run _ judged, eq_of_blocks (kept .time (by decide)) (kept .cu (by decide))
      (kept .bm (by decide)) (kept .map (by decide)) (kept .store (by decide)) (kept .st (by decide))
      (kept .pru (by decide)), ?_, ?_, ?_, ?_, ?_, fun gone => dirty.2 (all gone), fun l hl _ => dirty.1 l (still l hl),
      kept .heads (by decide), kept .feeders (by decide), fun unique numbers => ?_⟩
    · exact (congrArg Panel.present y).trans present
    · exact (congrArg Panel.misses y).trans misses
    · exact (congrArg Panel.page y).trans page
    · exact (congrArg Panel.errorsCount y).trans errors
    · exact (congrArg Panel.missesCount y).trans count
    · exact removeAbsent_alarms (p := modPanel s.part w.panel answering) w.panel unique numbers

end Sys2Proof.Machine
end


section
/-! PROOFS. RESTART (O59): the replies in their order, what the work restart of each block leaves, and the hand-in of
the kept write list. -/

namespace Sys2Proof.Machine

-- One proof after another: every thread of a compile reserves its own stack.
set_option Elab.async false

/-! ## Notices that join the queue (R168) -/

/-- Only notices have joined the outbound queue, and the table, the ring and its timeout are as they were. -/
structure OnlyNotices (p q : Part) (notices : List Parcel) : Prop where
  outbound : q.rp.outbound = p.rp.outbound ++ notices
  kind : ∀ x ∈ notices, isNotice x = true
  table : q.rp.table = p.rp.table
  up : q.rp.up = p.rp.up
  timeout : q.rp.timeout = p.rp.timeout

theorem OnlyNotices.of_rp {p q : Part} (same : q.rp = p.rp) : OnlyNotices p q [] :=
  ⟨by rw [same, List.append_nil], by simp, by rw [same], by rw [same], by rw [same]⟩

theorem OnlyNotices.trans {p q r : Part} {xs ys : List Parcel} (a : OnlyNotices p q xs) (b : OnlyNotices q r ys) :
    OnlyNotices p r (xs ++ ys) where
  outbound := by rw [b.outbound, a.outbound, List.append_assoc]
  kind x hx := (List.mem_append.1 hx).elim (a.kind x) (b.kind x)
  table := b.table.trans a.table
  up := b.up.trans a.up
  timeout := b.timeout.trans a.timeout

theorem onlyNotices_offerIf (admitted : Bool) (p : Part) (k : Nat) (x : List Byte) :
    ∃ ns, OnlyNotices p (offerIf admitted p k x) ns := by
  unfold offerIf offerNotice
  split
  next =>
    dsimp only
    split
    next => exact ⟨[_], rfl, by simp [isNotice], rfl, rfl, rfl⟩
    next => exact ⟨[], (List.append_nil _).symm, by simp, rfl, rfl, rfl⟩
  next => exact ⟨[], .of_rp rfl⟩

/-! ## The hand-in of the write list (R110) -/

/-- A pull record handed in: its store, and the notices it brings. -/
theorem writePullRecord_spec (p : Part) (r : PullRecord) :
    (∃ ns, OnlyNotices p (writePullRecord p r) ns) ∧
    (writePullRecord p r).store = (enqueue (setStore p { p.store with wp := p.store.wp + 1 })
      (pullWriteRequest p r)).store ∧ (writePullRecord p r).pru = p.pru := by
  let queued := enqueue (setStore p { p.store with wp := p.store.wp + 1 }) (pullWriteRequest p r)
  have rp : queued.rp = p.rp := by simp [queued]
  have pru : queued.pru = p.pru := by simp [queued]
  have offered : ∀ q : Part, (∃ ns, OnlyNotices p q ns) → q.store = queued.store → q.pru = p.pru →
      (∃ ns, OnlyNotices p (offerPull q (some p.store.wp) r) ns) ∧
        (offerPull q (some p.store.wp) r).store = queued.store ∧ (offerPull q (some p.store.wp) r).pru = p.pru := by
    rintro q ⟨ns, notices⟩ store pru
    obtain ⟨ms, more⟩ := onlyNotices_offerIf q.cu.select.pulls q 3 (pullNotice (some p.store.wp) r)
    exact ⟨⟨ns ++ ms, notices.trans more⟩, (offerPull_store ..).trans store, (offerPull_pru ..).trans pru⟩
  unfold writePullRecord
  dsimp only
  split
  next =>
    refine offered _ ?_ (offerPullWrap_store ..) ((offerPullWrap_pru ..).trans pru)
    obtain ⟨ms, more⟩ := onlyNotices_offerIf queued.cu.select.wraps queued 6
      (wrapNotice p.store.wp p.store.config.pullCap)
    exact ⟨[] ++ ms, (OnlyNotices.of_rp rp).trans more⟩
  next => exact offered _ ⟨[], .of_rp rp⟩ rfl pru

/-- How many records of the write list are handed in at once. -/
def handInCount (k : Nat) (p : Part) : Nat :=
  if inService p then min (min k p.pru.writeList.length) (pullPlaces p) else 0

/-- What the hand-in of `n` records leaves. -/
structure HandedIn (p q : Part) (n : Nat) : Prop where
  notices : ∃ ns, OnlyNotices p q ns ∧ (n = 0 → ns = [])
  queue : q.store.queue.take p.store.queue.length = p.store.queue
  length : q.store.queue.length = p.store.queue.length + n
  state : q.store.state = if p.store.state = .ready ∧ 0 < n then .busy else p.store.state
  config : q.store.config = p.store.config
  firstFault : q.store.firstFault = p.store.firstFault
  wb : q.store.wb = p.store.wb
  wp : q.store.wp = p.store.wp + BitVec.ofNat 32 n
  pru : q.pru = { p.pru with writeList := p.pru.writeList.drop n }

theorem HandedIn.refl (p : Part) : HandedIn p p 0 where
  notices := ⟨[], .of_rp rfl, fun _ => rfl⟩
  queue := List.take_length
  length := rfl
  state := by simp
  config := rfl
  firstFault := rfl
  wb := rfl
  wp := by simp
  pru := rfl

theorem enqueue_store (p : Part) (r : Request) : (enqueue p r).store = { p.store with
    queue := p.store.queue ++ [r]
    state := if p.store.state = .ready then .busy else p.store.state
    done := if p.store.state = .ready then 0 else p.store.done
    got := if p.store.state = .ready then [] else p.store.got } := by
  unfold enqueue
  dsimp only
  split <;> simp [*]

theorem handIn_one {p : Part} {r : PullRecord} {rest : List PullRecord} (h : p.pru.writeList = r :: rest) :
    HandedIn p (writePullRecord (setPru p { p.pru with writeList := rest }) r) 1 := by
  obtain ⟨⟨ns, notices⟩, store, pru⟩ := writePullRecord_spec (setPru p { p.pru with writeList := rest }) r
  rw [enqueue_store] at store
  refine ⟨⟨ns, ⟨notices.outbound, notices.kind, notices.table, notices.up, notices.timeout⟩, fun e => by cases e⟩,
    ?_, ?_, ?_, by rw [store]; rfl, by rw [store]; rfl, by rw [store]; rfl, by rw [store]; rfl, ?_⟩
  · rw [store]
    exact List.take_left' rfl
  · rw [store]
    exact List.length_append
  · rw [store]
    show (if p.store.state = .ready then StoreState.busy else p.store.state) = _
    simp
  · rw [pru, h]
    rfl

theorem HandedIn.cons {p q r : Part} {n : Nat} (a : HandedIn p q 1) (b : HandedIn q r n) : HandedIn p r (n + 1) where
  notices := by
    obtain ⟨ns, one, -⟩ := a.notices
    obtain ⟨ms, more, -⟩ := b.notices
    exact ⟨ns ++ ms, one.trans more, fun e => by cases e⟩
  queue := by
    have short : p.store.queue.length ≤ q.store.queue.length := by rw [a.length]; omega
    calc r.store.queue.take p.store.queue.length
        = (r.store.queue.take q.store.queue.length).take p.store.queue.length := by
          rw [List.take_take, Nat.min_eq_left short]
      _ = p.store.queue := by rw [b.queue, a.queue]
  length := by rw [b.length, a.length]; omega
  state := by
    rw [b.state, a.state]
    by_cases h : p.store.state = .ready <;> simp [h]
  config := b.config.trans a.config
  firstFault := b.firstFault.trans a.firstFault
  wb := b.wb.trans a.wb
  wp := by rw [b.wp, a.wp, Nat.add_comm n 1, BitVec.ofNat_add, BitVec.add_assoc]
  pru := by
    rw [b.pru, a.pru]
    simp

theorem isPullRequest_pullWriteRequest (p : Part) (r : PullRecord) : isPullRequest (pullWriteRequest p r) = true := rfl

theorem handedIn_handInWrites : ∀ (k : Nat) (p : Part), HandedIn p (handInWrites k p) (handInCount k p)
  | 0, p => by
    have zero : handInCount 0 p = 0 := by
      unfold handInCount
      split <;> simp
    rw [zero]
    exact .refl p
  | k + 1, p => by
    unfold handInWrites
    split
    next empty =>
      have zero : handInCount (k + 1) p = 0 := by
        unfold handInCount
        split <;> simp [empty]
      rw [zero]
      exact .refl p
    next r rest list =>
      split
      next goes =>
        rw [Bool.and_eq_true, decide_eq_true_eq] at goes
        let q := writePullRecord (setPru p { p.pru with writeList := rest }) r
        have one : HandedIn p q 1 := handIn_one list
        have serves : inService q = true := by
          have still : Law.Holds (setPru p { p.pru with writeList := rest }) q .records :=
            keeps_writePullRecord (p := setPru p { p.pru with writeList := rest }) goes.1 r _ (by decide)
          exact (still goes.1).1
        have places : pullPlaces q = pullPlaces p - 1 := by
          rw [pullPlaces, pullPlaces, writePullRecord_queue]
          simp only [List.countP_append, List.countP_singleton, isPullRequest_pullWriteRequest, if_true, setPru_store]
          omega
        have left : q.pru.writeList = rest := by rw [one.pru, list]; rfl
        have count : handInCount (k + 1) p = handInCount k q + 1 := by
          have free := goes.2
          simp only [handInCount, goes.1, serves, if_true, left, places, list, List.length_cons]
          omega
        rw [count]
        exact one.cons (handedIn_handInWrites k q)
      next stays =>
        have zero : handInCount (k + 1) p = 0 := by
          rw [Bool.and_eq_true, decide_eq_true_eq, not_and, Nat.not_lt] at stays
          unfold handInCount
          split
          next serves => have := stays serves; omega
          next => rfl
        rw [zero]
        exact .refl p

/-! ## The denials (R96) -/

/-- The replies that deny an ask that waits, ABANDONED. -/
def abandonedReplies (p : Part) (kind : Byte) (a : Option Ask) : List Parcel :=
  a.toList.map fun a => ⟨kind, ownStation p, a.station, a.tag, [5]⟩

theorem answerAsk_abandoned (a : Option Ask) (kind : Byte) (p : Part) :
    answerAsk a (fun p x => denyAsk p kind x .abandoned) p = setRp p { p.rp with
      outbound := p.rp.outbound ++ abandonedReplies p kind a
      reservations := p.rp.reservations - a.toList.length } := by
  cases a with
  | none => simp [answerAsk, abandonedReplies, setRp]
  | some x => rfl

theorem restartStrips_eq (p : Part) : ∃ n, restartStrips p = setSt (setRp p { p.rp with
      outbound := p.rp.outbound
        ++ abandonedReplies p 0x31 (p.st.lanes.zero.feedAsk.map FeedAsk.ask)
        ++ abandonedReplies p 0x31 (p.st.lanes.one.feedAsk.map FeedAsk.ask)
        ++ abandonedReplies p 0x33 p.st.lanes.zero.unitAsk ++ abandonedReplies p 0x33 p.st.lanes.one.unitAsk
        ++ abandonedReplies p 0x35 p.st.lanes.zero.moveAsk ++ abandonedReplies p 0x35 p.st.lanes.one.moveAsk
      reservations := n })
    { p.st with
      lanes := ⟨restartLane p.st.lanes.zero, restartLane p.st.lanes.one⟩
      purged := [], pool := 10, inMap := Vector.replicate 40 .unknown, elevator := .idle } := by
  refine ⟨(restartStrips p).rp.reservations, ?_⟩
  simp only [restartStrips, answerAsk_abandoned]
  rfl

/-! ## The work restart (R179) -/

theorem withdrawLookups_waiters (p : Part) (q : Waiter → Bool) :
    (withdrawLookups p q).map.fetches = p.map.fetches.map (fun f => { f with waiters := f.waiters.filter fun w => !q w }) ∧
      (withdrawLookups p q).map.placeWait = p.map.placeWait.filter fun x => !q x.waiter := ⟨rfl, rfl⟩

/-- Every lookup is of a context of a head or of the Pull Record Unit. -/
theorem ofChannel_or_ofPulls (w : Waiter) : (ofChannel .zero w || ofChannel .one w) = true ∨ ofPulls w = true := by
  obtain ⟨party, n⟩ := w
  cases party with
  | ctx h i => cases h <;> simp [ofChannel]
  | pull => exact .inr rfl

/-- The map cache after a work restart: nothing is cached, nothing waits, and the fetches in flight are stale. -/
def restartedMap (m : MapCache) : MapCache :=
  { m with
    slots := Vector.replicate 16 none
    fetches := m.fetches.map fun f => { f with stale := true, waiters := [] }
    placeWait := [] }

theorem filter_not_withdrawn {α : Type} (g : α → Waiter) (xs : List α) :
    (xs.filter fun x => !(ofChannel .zero (g x) || ofChannel .one (g x))).filter (fun x => !ofPulls (g x)) = [] := by
  rw [List.filter_filter]
  refine List.filter_eq_nil_iff.2 fun x _ => ?_
  rcases ofChannel_or_ofPulls (g x) with h | h <;> simp [h]

theorem workRestart_map (p : Part) : (workRestart p).map = restartedMap p.map := by
  obtain ⟨n, strips⟩ := restartStrips_eq (restartQueue (flushCache (restartChannels (restartOutbound p))))
  have whole : (workRestart p).map = (withdrawLookups
      (restartStrips (restartQueue (flushCache (restartChannels (restartOutbound p))))) ofPulls).map := rfl
  rw [whole, strips]
  have fetches : ((p.map.fetches.map fun f => { f with waiters := f.waiters.filter fun w =>
      !(ofChannel .zero w || ofChannel .one w) }).map fun f => ({ f with stale := true } : Fetch)).map
        (fun f => { f with waiters := f.waiters.filter fun w => !ofPulls w }) =
      p.map.fetches.map fun f => { f with stale := true, waiters := [] } := by
    simp only [List.map_map]
    exact List.map_congr_left fun f _ =>
      congrArg (fun ws => ({ f with stale := true, waiters := ws } : Fetch)) (filter_not_withdrawn id f.waiters)
  have waits := filter_not_withdrawn PlaceWait.waiter p.map.placeWait
  show MapCache.mk .. = MapCache.mk ..
  exact congrArg₂ (fun a b => ({ p.map with
    slots := Vector.replicate 16 none, fetches := a, placeWait := b } : MapCache)) fetches waits

theorem restartRequests_eq (rs : List Request) :
    restartRequests rs = (rs.take 1).map (fun r => if isBondRead r then { r with withdrawn := true } else r)
      ++ (rs.drop 1).filter fun r => !isBondRead r := by
  cases rs <;> rfl

/-- The blocks of the part after a work restart, but for the map cache and the reservations. -/
theorem workRestart_blocks (p : Part) :
    let r := workRestart p
    (∃ n, r.rp = { p.rp with
      outbound := p.rp.outbound.filter (fun x => !isNotice x)
        ++ abandonedReplies p 0x31 (p.st.lanes.zero.feedAsk.map FeedAsk.ask)
        ++ abandonedReplies p 0x31 (p.st.lanes.one.feedAsk.map FeedAsk.ask)
        ++ abandonedReplies p 0x33 p.st.lanes.zero.unitAsk ++ abandonedReplies p 0x33 p.st.lanes.one.unitAsk
        ++ abandonedReplies p 0x35 p.st.lanes.zero.moveAsk ++ abandonedReplies p 0x35 p.st.lanes.one.moveAsk
      reservations := n }) ∧
    r.time = p.time ∧ r.cu = p.cu ∧
    r.bm = { p.bm with
      channels := ⟨clearContexts p.bm.channels.zero, clearContexts p.bm.channels.one⟩ } ∧
    r.store = { p.store with queue := restartRequests p.store.queue } ∧
    r.st = { p.st with
      lanes := ⟨restartLane p.st.lanes.zero, restartLane p.st.lanes.one⟩
      purged := [], pool := 10, inMap := Vector.replicate 40 .unknown, elevator := .idle } ∧
    r.pru = { p.pru with
      pulls := [], intake := [], slot := .empty, sampling := Two.both {}
      windows := Two.both (Vector.replicate 8 {}) } ∧
    r.ahu = { p.ahu with
      alarms := [], heads := ⟨restartHeadSet p.ahu.heads.zero, restartHeadSet p.ahu.heads.one⟩
      feeders := Two.both {} } ∧
    r.pnc = { p.pnc with
      walk := dropWindowKeys p.pnc.walk
      panels := vmap (fun x => if x.enabled then markAllLines { x with beep := false, selection := none } else x)
        p.pnc.panels } := by
  intro r
  obtain ⟨n, strips⟩ := restartStrips_eq (restartQueue (flushCache (restartChannels (restartOutbound p))))
  have whole : r = restartPanels (restartHolds (restartPulls
      (restartStrips (restartQueue (flushCache (restartChannels (restartOutbound p))))))) := rfl
  rw [whole, strips]
  exact ⟨⟨n, rfl⟩, rfl, rfl, rfl, rfl, rfl, rfl, rfl, rfl⟩

/-- Settles O59. -/
theorem restartRepliesInOrder : Obligations.RestartRepliesInOrder := by
  intro p c waits q zero one deny kept n
  obtain ⟨⟨held, rp⟩, time, cu, bm, store, st, pru, ahu, pnc⟩ := workRestart_blocks p
  let r := workRestart p
  let d := replyDone r []
  have waits' : r.cu.inProgress = some c := (congrArg CommandUnit.inProgress cu).trans waits
  have reply := keeps_replyDone r []
  have handed := keeps_handInWrites 2 d
  have dStore : d.store = r.store := reply .store (by decide)
  have dPru : d.pru = r.pru := reply .pru (by decide)
  have queue : d.store.queue = kept := by
    rw [dStore, store]
    exact restartRequests_eq p.store.queue
  have count : handInCount 2 d = n := by
    have serves : inService d = inService p := by rw [inService, inService, dStore, store]
    have list : d.pru.writeList = p.pru.writeList := by rw [dPru, pru]
    simp only [handInCount, serves, list, pullPlaces, queue, n]
    split <;> omega
  have dRp : d.rp.outbound = r.rp.outbound ++ [⟨0x11, ownStation p, c.station, c.tag, [c.code, 0, 0]⟩] := by
    have own : ownStation r = ownStation p := by rw [ownStation, ownStation, rp]
    rw [← own]
    exact replyDone_outbound waits' (by simp)
  have dLink : d.rp.table = p.rp.table ∧ d.rp.up = p.rp.up ∧ d.rp.timeout = p.rp.timeout := by
    simp only [d, replyDone_of_inProgress waits', setCu_rp]
    show r.rp.table = _ ∧ r.rp.up = _ ∧ r.rp.timeout = _
    rw [rp]
    exact ⟨rfl, rfl, rfl⟩
  have behind := handedIn_handInWrites 2 d
  rw [count] at behind
  obtain ⟨⟨notices, only, none⟩, front, length, state, config, firstFault, wb, wp, pulls⟩ := behind
  have bm' : q.bm = r.bm := (handed .bm (by decide)).trans (reply .bm (by decide))
  have map' : q.map = restartedMap p.map :=
    ((handed .map (by decide)).trans (reply .map (by decide))).trans (workRestart_map p)
  have st' : q.st = r.st := (handed .st (by decide)).trans (reply .st (by decide))
  have ahu' : q.ahu = r.ahu := (handed .ahu (by decide)).trans (reply .ahu (by decide))
  have pnc' : q.pnc = r.pnc := (handed .pnc (by decide)).trans (reply .pnc (by decide))
  have time' : q.time = r.time := (handed .time (by decide)).trans (reply .time (by decide))
  have cu' : q.cu = d.cu := handed .cu (by decide)
  have select : d.cu.select = p.cu.select := by
    simp only [d, replyDone_of_inProgress waits', setCu_cu]
    rw [cu]
  rw [bm] at bm'
  rw [st] at st'
  rw [ahu] at ahu'
  rw [pnc] at pnc'
  rw [queue] at front length
  rw [dStore, store] at state config firstFault wb wp
  rw [dPru, pru] at pulls
  replace pulls : q.pru = _ := pulls
  refine ⟨⟨notices, ?_, only.kind, none⟩, fun h => ?_, fun i => ?_, ?_, ?_, ?_, front, length, state, config, firstFault,
    wb, wp, ?_, ?_, ?_, ?_, ?_, ?_, ?_, fun l => ?_, ?_, ?_, ?_, ?_, ?_, fun l => ?_, ?_, ?_, fun h => ?_, fun l => ?_,
    fun i => ?_, fun w hw => ?_, ?_, time'.trans time, ?_, ?_, only.table.trans dLink.1, only.up.trans dLink.2.1,
    only.timeout.trans dLink.2.2⟩
  · exact only.outbound.trans (by rw [dRp, rp]; rfl)
  · rw [bm']
    cases h <;> exact ⟨rfl, fun i => replicate_get .., rfl, rfl⟩
  · rw [map']
    exact replicate_get ..
  · rw [map']
    rfl
  · rw [map']
    intro f hf
    obtain ⟨g, -, rfl⟩ := List.mem_map.1 hf
    exact ⟨rfl, rfl⟩
  · rw [map']
    simp [restartedMap, Function.comp_def]
  · rw [pulls]
  · rw [st']
  · rw [st']
  · rw [st']
  · rw [st']
  · rw [st']
  · rw [st']
    exact fun i => replicate_get ..
  · rw [st']
    cases l <;> exact ⟨rfl, rfl, rfl, rfl, rfl, fun i => replicate_get ..⟩
  · rw [pulls]
  · rw [pulls]
  · rw [pulls]
  · rw [pulls]
  · rw [pulls]
  · rw [pulls]
    exact ⟨Two.get_both .., fun k => by rw [Two.get_both]; exact replicate_get ..⟩
  · rw [ahu']
  · rw [ahu']
  · rw [ahu']
    cases h <;> rfl
  · rw [ahu']
    exact Two.get_both ..
  · rw [pnc', vmap_get]
    rfl
  · rw [pnc'] at hw
    cases walk : p.pnc.walk with
    | listening v =>
      simp only [walk, dropWindowKeys, WalkState.listening.injEq] at hw
      rw [← hw]
    | stopped => simp [walk, dropWindowKeys] at hw
    | sending t => simp [walk, dropWindowKeys] at hw
    | resting => simp [walk, dropWindowKeys] at hw
  · rw [pnc']
  · rw [bm']
  · exact (congrArg CommandUnit.select cu').trans select

end Sys2Proof.Machine
end


section
/-! PROOFS. The issue of a verdict (O36): the release of the bond's unit, its final status and the pulls and moves
that follow. -/

namespace Sys2Proof.Machine

-- One proof after another: every thread of a compile reserves its own stack.
set_option Elab.async false

/-! ## Records at their places (R73) -/

theorem locate_congr {p q : Part} (st : q.st = p.st) (n : BitVec 16) : locate q n = locate p n := by
  have stands : standsAt q n = standsAt p n := funext fun x => by rw [standsAt, standsAt, st]
  rw [locate, locate, stands, st]

theorem recordAt_congr {p q : Part} (st : q.st = p.st) (x : Place) : recordAt q x = recordAt p x := by
  cases x <;> simp only [recordAt, st]

theorem recordAt_modRecord_same (p : Part) (f : Strip → Strip) (x : Place) :
    recordAt (modRecord p f x) x = (recordAt p x).map f := by
  cases x with
  | lane l x => cases x <;> simp [recordAt, modRecord, setPosition, atPosition]
  | purged i => simp [recordAt, modRecord]

theorem atPosition_setPosition_other {x y : Position} (ne : x ≠ y) (a : Lane) (s : Option Strip) :
    atPosition (setPosition a y s) x = atPosition a x := by
  cases y <;> cases x <;> simp [atPosition, setPosition] at ne ⊢

theorem recordAt_modRecord_other (p : Part) (f : Strip → Strip) {x y : Place} (ne : x ≠ y) :
    recordAt (modRecord p f y) x = recordAt p x := by
  cases y with
  | lane l y =>
    cases x with
    | lane g x =>
      simp only [recordAt, modRecord, modLane_st, Two.get_set_eq_ite]
      split
      next e => exact e ▸ atPosition_setPosition_other (fun same => ne (by rw [e, same])) _ _
      next => rfl
    | purged i => simp only [recordAt, modRecord, modLane_st]
  | purged i =>
    cases x with
    | lane g x => rfl
    | purged k =>
      have apart : i ≠ k := fun same => ne (by rw [same])
      simp [recordAt, modRecord, apart]

theorem findIdx?_modify {α β : Type} {f : α → α} {g : α → β} (same : ∀ x, g (f x) = g x) (q : β → Bool) (xs : List α)
    (i : Nat) : (xs.modify i f).findIdx? (fun x => q (g x)) = xs.findIdx? fun x => q (g x) := by
  have mapped : (xs.modify i f).map g = xs.map g := by
    refine List.ext_getElem? fun k => ?_
    rw [List.getElem?_map, List.getElem?_map, List.getElem?_modify]
    cases xs[k]? with
    | none => rfl
    | some x => by_cases hk : i = k <;> simp [hk, same]
  have keyed : ∀ ys : List α, ys.findIdx? (fun x => q (g x)) = (ys.map g).findIdx? q := fun ys =>
    List.findIdx?_map.symm
  rw [keyed, keyed, mapped]

/-- A change that leaves the numbers of the records leaves where each is found. -/
theorem locate_modRecord {f : Strip → Strip} (same : ∀ s, (f s).number = s.number) (p : Part) (x : Place)
    (n : BitVec 16) : locate (modRecord p f x) n = locate p n := by
  have stands : standsAt (modRecord p f x) n = standsAt p n := funext fun y => by
    have found : ∀ q : Part, standsAt q n y = ((recordAt q (.lane y.1 y.2)).map fun s => s.number == n).getD false :=
      fun q => by
        simp only [standsAt, recordAt]
        cases atPosition (q.st.lanes.get y.1) y.2 <;> rfl
    rw [found, found]
    by_cases e : Place.lane y.1 y.2 = x
    · subst e
      rw [recordAt_modRecord_same]
      cases recordAt p (.lane y.1 y.2) <;> simp [same]
    · rw [recordAt_modRecord_other _ _ e]
  have purged : (modRecord p f x).st.purged.findIdx? (fun s => s.number == n) =
      p.st.purged.findIdx? fun s => s.number == n := by
    cases x with
    | lane l x => simp only [modRecord, modLane_st]
    | purged i => exact findIdx?_modify same (fun k => k == n) p.st.purged i
  rw [locate, locate, stands, purged]

/-! ## What a move leaves (R88, R89) -/

/-- The lanes keep their configurations, the records at EXIT and their MOVE_ASKs. -/
def ExitsKept (p q : Part) : Prop :=
  ∀ g, (q.st.lanes.get g).config = (p.st.lanes.get g).config ∧ (q.st.lanes.get g).exit = (p.st.lanes.get g).exit ∧
    (q.st.lanes.get g).moveAsk = (p.st.lanes.get g).moveAsk

theorem ExitsKept.of_lanes {p q : Part} (same : q.st.lanes = p.st.lanes) : ExitsKept p q := fun g => by
  rw [same]
  exact ⟨rfl, rfl, rfl⟩

theorem ExitsKept.trans {p q r : Part} (a : ExitsKept p q) (b : ExitsKept q r) : ExitsKept p r := fun g => by
  obtain ⟨config, exit, ask⟩ := a g
  obtain ⟨config', exit', ask'⟩ := b g
  exact ⟨config'.trans config, exit'.trans exit, ask'.trans ask⟩

/-- A change of a lane that leaves these three of it; `by` proves it once the change is known. -/
theorem exitsKept_modLane (p : Part) (l : Side) (f : Lane → Lane)
    (same : ∀ a, (f a).config = a.config ∧ (f a).exit = a.exit ∧ (f a).moveAsk = a.moveAsk := by
      exact fun _ => ⟨rfl, rfl, rfl⟩) :
    ExitsKept p (modLane p l f) := fun g => by
  simp only [modLane_st, Two.get_set_eq_ite]
  split
  next e => exact e ▸ same _
  next => exact ⟨rfl, rfl, rfl⟩

theorem exitsKept_starve (p : Part) (l : Side) (f : FeedAsk) : ExitsKept p (starve p l f) := by
  unfold starve
  split
  next => exact .of_lanes rfl
  next =>
    exact (exitsKept_modLane p l fun lane => { lane with feedAsk := some { f with starved := true } }).trans
      (.of_lanes (by simp [countStrips]))

theorem exitsKept_denyEmpty (p : Part) (l : Side) (f : FeedAsk) : ExitsKept p (denyEmpty p l f) :=
  (exitsKept_modLane p l fun lane => { lane with feedAsk := none }).trans (.of_lanes (by simp [denyEmpty, denyAsk]))

theorem exitsKept_feedGrant (p : Part) (l : Side) (a : Ask) (s : Fin 40) : ExitsKept p (feedGrant p l a s) :=
  (exitsKept_modLane p l fun lane =>
    { lane with pulling := some (freshStrip p.st.nextStrip s.val l), feedAsk := none }).trans
      (.of_lanes (by simp [feedGrant]))

theorem exitsKept_arbiterRun : ∀ (n : Nat) (p : Part), ExitsKept p (arbiterRun n p)
  | 0, p => .of_lanes rfl
  | n + 1, p => by
    unfold arbiterRun
    split
    next => exact .of_lanes rfl
    next =>
      split
      next => exact .of_lanes rfl
      next l _ =>
        split
        next => exact .of_lanes rfl
        next f _ =>
          split
          next => exact exitsKept_starve p l f
          next =>
            split
            next => exact (exitsKept_denyEmpty p l f).trans (exitsKept_arbiterRun n _)
            next s _ => exact exitsKept_feedGrant p l f.ask s

theorem exitsKept_mayEnter (p : Part) (l : Side) : ExitsKept p (mayEnter p l) := by
  unfold mayEnter
  split
  next => exact exitsKept_arbiterRun 3 p
  next => exact .of_lanes rfl

theorem exitsKept_considerSampling (p : Part) (l : Side) : ExitsKept p (considerSampling p l) := by
  unfold considerSampling
  dsimp only
  split
  next => exact exitsKept_modLane (modSampling p l _) l _
  next => exact .of_lanes rfl

theorem exitsKept_modBond (p : Part) (l : Side) (f : Strip → Strip) : ExitsKept p (modRecord p f (.lane l .bond)) :=
  exitsKept_modLane p l fun a => setPosition a .bond ((atPosition a .bond).map f)

theorem exitsKept_modBondUnit (p : Part) (l : Side) (i : Nat) (f : UnitEntry → UnitEntry) :
    ExitsKept p (modUnitAt p (.lane l .bond) i f) :=
  exitsKept_modBond p l _

theorem exitsKept_decideUnit {p q : Part} {l : Side} {a : Ask} (decided : decideUnit p l a = some q) :
    ExitsKept p q := by
  unfold decideUnit at decided
  dsimp only at decided
  split at decided
  next => cases decided
  next =>
    split at decided
    next => cases decided
    next =>
      split at decided
      next => cases decided; exact .of_lanes rfl
      next =>
        cases decided
        exact (exitsKept_modBondUnit p l _ _).trans (.of_lanes (congrArg StripTracker.lanes (giveReply_st ..)))

theorem exitsKept_examineUnitAsk (p : Part) (l : Side) : ExitsKept p (examineUnitAsk p l) := by
  unfold examineUnitAsk
  split
  next => exact .of_lanes rfl
  next a _ =>
    split
    next => exact .of_lanes rfl
    next q decided => exact (exitsKept_decideUnit decided).trans (exitsKept_modLane q l _)

/-- A lane's MOVE_ASK is granted: the record at BOND stands at EXIT, and the ask is gone (R89). -/
structure Moved (l : Side) (p q : Part) : Prop where
  config : ∀ g, (q.st.lanes.get g).config = (p.st.lanes.get g).config
  asked : (p.st.lanes.get l).moveAsk ≠ none
  answered : (q.st.lanes.get l).moveAsk = none
  exit : (q.st.lanes.get l).exit = (p.st.lanes.get l).bond

theorem Moved.andThen {l : Side} {p q r : Part} (m : Moved l p q) (k : ExitsKept q r) : Moved l p r where
  config g := (k g).1.trans (m.config g)
  asked := m.asked
  answered := (k l).2.2.trans m.answered
  exit := (k l).2.1.trans m.exit

theorem moved_moveGrant {p : Part} {l : Side} {a : Ask} (asked : (p.st.lanes.get l).moveAsk = some a)
    (free : (p.st.lanes.get l).exit = none) : Moved l p (moveGrant p l a) := by
  let answered := giveReply (modLane p l fun x => { x with moveAsk := none }) 0x34 a []
  have ask : (p.st.lanes.get l).moveAsk ≠ none := by simp [asked]
  unfold moveGrant
  dsimp only
  split
  next empty =>
    obtain ⟨-, bond⟩ : (p.st.lanes.get l).pre = none ∧ (p.st.lanes.get l).bond = none := by simpa using empty
    refine ⟨fun g => ?_, ask, by simp, by simp [free, bond]⟩
    simp only [giveReply_st, modLane_st, Two.get_set_eq_ite]
    split
    next e => rw [e]
    next => rfl
  next =>
    have shifted : Moved l p (modLane answered l shiftLane) := by
      refine ⟨fun g => ?_, ask, by simp [answered, shiftLane], by simp [answered, shiftLane]⟩
      simp only [answered, giveReply_st, modLane_st, Two.get_set_eq_ite]
      split
      next e => rw [e]; rfl
      next => rfl
    have noticed : ∀ x, Moved l p (offerStrip (modLane answered l shiftLane) x) := fun x =>
      shifted.andThen (.of_lanes (congrArg StripTracker.lanes (keeps_offerStrip _ x .st (by decide))))
    split
    next =>
      exact (noticed _).andThen (((exitsKept_mayEnter _ l).trans (exitsKept_considerSampling _ l)).trans
        (exitsKept_examineUnitAsk _ l))
    next => exact noticed _

theorem examineMove_cases (p : Part) (l : Side) : examineMove p l = p ∨ Moved l p (examineMove p l) := by
  unfold examineMove
  split
  next => exact .inl rfl
  next a asked =>
    split
    next free => exact .inr (moved_moveGrant asked (mayMove_exit free))
    next => exact .inl rfl

theorem examineMove_of_none {p : Part} {l : Side} (none : (p.st.lanes.get l).moveAsk = none) : examineMove p l = p := by
  rw [examineMove, none]

/-- What a second examination finds is answered already. -/
theorem examineMove_examineMove (p : Part) (l : Side) : examineMove (examineMove p l) l = examineMove p l := by
  rcases examineMove_cases p l with same | moved
  · rw [same, same]
  · exact examineMove_of_none moved.answered

theorem examineMove_config (p : Part) (l g : Side) :
    ((examineMove p l).st.lanes.get g).config = (p.st.lanes.get g).config := by
  rcases examineMove_cases p l with same | moved
  · rw [same]
  · exact moved.config g

/-- A unit that is not finished holds the move back (R88). -/
theorem examineMove_of_unfinished {p : Part} {l : Side} {b : Strip} {e : UnitEntry}
    (bond : (p.st.lanes.get l).bond = some b) (unit : e ∈ b.units) (unfinished : holdsMove e.status = true) :
    examineMove p l = p := by
  have held : mayMove (p.st.lanes.get l) = false := by
    simp only [mayMove, bond, Bool.and_eq_false_iff]
    exact .inr (List.all_eq_false.2 ⟨e, unit, by simp [unfinished]⟩)
  unfold examineMove
  split
  next => rfl
  next => rw [held]; rfl

end Sys2Proof.Machine
end


section
/-! PROOFS. The issue of a verdict (O36): the release of the bond's unit with its final status, and the issue's
effects one by one. -/

namespace Sys2Proof.Machine

-- One proof after another: every thread of a compile reserves its own stack.
set_option Elab.async false

/-! ## The bond numbers stay (R63) -/

theorem handInWrites_wb : ∀ (n : Nat) (p : Part), (handInWrites n p).store.wb = p.store.wb
  | 0, _ => rfl
  | n + 1, p => by
    unfold handInWrites
    split
    next => rfl
    next r rest _ =>
      split
      next =>
        let taken := setPru p { p.pru with writeList := rest }
        have written : (writePullRecord taken r).store.wb = p.store.wb := by
          obtain ⟨-, -, -, wb, -⟩ := enqueue_spec (setStore taken { taken.store with wp := taken.store.wp + 1 })
            (pullWriteRequest taken r)
          unfold writePullRecord
          dsimp only
          rw [keeps_offerPull _ _ _ .store (by decide)]
          split
          next => rw [keeps_offerPullWrap _ _ _ .store (by decide)]; exact wb
          next => exact wb
        exact (handInWrites_wb n _).trans written
      next => rfl

theorem giveRecord_wb (p : Part) (r : PullRecord) : (giveRecord p r).store.wb = p.store.wb := by
  unfold giveRecord
  split
  next => exact handInWrites_wb 2 _
  next => exact congrArg RecordStore.wb (keeps_sendUnwritten p r .store (by decide))

theorem expirePull_wb (p : Part) (e : PendingPull) (evicted : Bool) :
    (expirePull p e evicted).store.wb = p.store.wb := by
  let taken := withdrawClass (setPulls p (p.pru.pulls.filter fun x => !samePull e.strip e.unit e.wire x)) e.pullClass
  let counted := countPulls taken fun c =>
    if evicted then { c with evicted := inc c.evicted } else { c with expired := inc c.expired }
  have store : counted.store = p.store :=
    (keeps_withdrawClass _ _ .store (by decide)).trans (keeps_setPulls p _ .store (by decide))
  show (raiseAlarm (giveExpired counted (expiredRecord counted e)) _ _ _).store.wb = _
  rw [raiseAlarm_store, ← store, giveExpired]
  split
  next => exact congrArg RecordStore.wb (keeps_sendUnwritten counted _ .store (by decide))
  next => exact giveRecord_wb counted _

theorem evictFor_wb (p : Part) (strip : BitVec 16) (unit wire : Nat) :
    (evictFor p strip unit wire).store.wb = p.store.wb := by
  unfold evictFor
  dsimp only
  have oldest : ∀ q : Part, q.store.wb = p.store.wb → (if q.pru.pulls.length < pendingPlaces then q else
      match q.pru.pulls with
      | [] => q
      | e :: _ => expirePull q e true).store.wb = p.store.wb := fun q hq => by
    split
    next => exact hq
    next =>
      split
      next => exact hq
      next e _ _ => exact (expirePull_wb q e true).trans hq
  split
  next => exact oldest p rfl
  next e _ => exact oldest _ (expirePull_wb p e true)

theorem startLookup_wb (p : Part) (key : MapKey) (x : Party) : (startLookup p key x).1.store.wb = p.store.wb := by
  unfold startLookup examineLookup
  dsimp only
  split
  next => rfl
  next =>
    split
    next => rfl
    next =>
      split
      next =>
        split
        next =>
          exact (enqueue_spec _ _).2.2.2.1
        next => rfl
      next => split <;> rfl

theorem appendPull_wb (strip : BitVec 16) (l : Side) (p : Part) (x : SelEntry) :
    (appendPull strip l p x).store.wb = p.store.wb := by
  have joined : ∀ es, (setPulls (evictFor p strip x.unit x.wire) es).store.wb = p.store.wb := fun es =>
    (congrArg RecordStore.wb (keeps_setPulls _ es .store (by decide))).trans (evictFor_wb p strip x.unit x.wire)
  unfold appendPull
  dsimp only
  split
  next => exact joined _
  next =>
    have looked := fun es key => (startLookup_wb (setPulls (evictFor p strip x.unit x.wire) es) key .pull).trans (joined es)
    split
    next =>
      exact (congrArg RecordStore.wb (keeps_settleClass _ _ _ .store (by decide))).trans (looked _ _)
    next => exact looked _ _
    next => exact looked _ _

theorem pullsOfUnit_wb (p : Part) (strip : BitVec 16) (l : Side) (final : UnitStatus) (es : List SelEntry) :
    (pullsOfUnit p strip l final es).store.wb = p.store.wb := by
  unfold pullsOfUnit
  split
  next => rfl
  next =>
    induction es generalizing p with
    | nil => rfl
    | cons x es ih => exact (ih _).trans (appendPull_wb strip l p x)

/-! ## The pulls of a finished unit (R101, R103) -/

/-- The pending pull that a selection entry with a class becomes (R101). -/
def pullOf (strip : BitVec 16) (l : Side) (y : SelEntry) : PendingPull :=
  ⟨strip, l, y.unit, y.wire, y.ball, y.stitch, false, 0, .settled y.pullClass⟩

/-- An entry with a class joins the tail when it is not on the list and a place is free. -/
theorem appendPull_of_free {strip : BitVec 16} {p : Part} {y : SelEntry} (named : y.pullClass ≠ none)
    (fresh : ∀ z ∈ p.pru.pulls, ¬(z.strip = strip ∧ z.unit = y.unit ∧ z.wire = y.wire))
    (free : p.pru.pulls.length < 64) (l : Side) :
    appendPull strip l p y = setPulls p (p.pru.pulls ++ [pullOf strip l y]) := by
  obtain ⟨c, hc⟩ := Option.ne_none_iff_exists'.1 named
  have absent : p.pru.pulls.find? (samePull strip y.unit y.wire) = none :=
    List.find?_eq_none.2 fun z hz => by simpa [samePull, and_assoc] using fresh z hz
  have room : p.pru.pulls.length < pendingPlaces := free
  have stays : evictFor p strip y.unit y.wire = p := by
    unfold evictFor
    rw [absent]
    exact if_pos room
  unfold appendPull
  simp only [stays, pullOf, hc]

/-- The entries of a unit, each with a class, of a wire of its own and new to the list, join it in order. -/
theorem foldl_appendPull (strip : BitVec 16) (l : Side) (i : Nat) : ∀ (ys : List SelEntry) (p : Part),
    (∀ y ∈ ys, y.pullClass ≠ none ∧ y.unit = i) → ys.Pairwise (fun y z => y.wire ≠ z.wire) →
    (∀ y ∈ ys, ∀ z ∈ p.pru.pulls, ¬(z.strip = strip ∧ z.unit = i ∧ z.wire = y.wire)) →
    p.pru.pulls.length + ys.length ≤ 64 →
    (ys.foldl (appendPull strip l) p).pru.pulls = p.pru.pulls ++ ys.map (pullOf strip l)
  | [], p, _, _, _, _ => by simp
  | y :: ys, p, own, apart, fresh, room => by
    obtain ⟨named, unit⟩ := own y (.head _)
    obtain ⟨first, rest⟩ := List.pairwise_cons.1 apart
    rw [List.length_cons] at room
    have step := appendPull_of_free (p := p) (strip := strip) named
      (by simpa only [unit] using fresh y (.head _)) (by omega) l
    rw [List.foldl_cons, step, foldl_appendPull strip l i ys _ (fun z hz => own z (.tail _ hz)) rest]
    · simp
    · intro x hx z hz
      rw [setPulls_pru, List.mem_append, List.mem_singleton] at hz
      rcases hz with hz | rfl
      · exact fresh x (.tail _ hx) z hz
      · exact fun same => first x hx same.2.2
    · simp; omega

/-! ## The unit that a bond lets go (R23, R87) -/

/-- The record `x` after a bond of its unit `u`: the mark, one reference less, and the strip's count. -/
def letGo (p : Part) (x : Place) (u : Nat) (m : UnitMark) (passed : Bool) : Part :=
  modRecord (modUnitAt p x u fun e => { addMark m e with refs := e.refs - 1 }) (fun s =>
    if passed then { s with passed := inc s.passed } else { s with failed := inc s.failed }) x

/-- The MOVE_ASK of the lane whose BOND position the unit was at is examined (R88). -/
def examineBehind (p : Part) : Place → Part
  | .lane l .bond => examineMove p l
  | .lane _ _ => p
  | .purged _ => p

theorem releaseUnit_of_found {p : Part} {u : UnitRef} {x : Place} (found : locate p u.strip = some x) (h : Side)
    (m : UnitMark) (passed : Bool) :
    releaseUnit p h (some u) m (some passed) = examineBehind (closeUnit (letGo p x u.unit m passed) x u.unit) x := by
  have counts : (fun s : Strip => if passed then { s with passed := inc s.passed } else { s with failed := inc s.failed }) =
      fun s => match some passed with
        | some true => { s with passed := inc s.passed }
        | some false => { s with failed := inc s.failed }
        | none => s := by
    cases passed <;> rfl
  rw [letGo, counts]
  simp only [releaseUnit, Option.bind_some, found]
  cases x with
  | lane l x => cases x <;> rfl
  | purged i => rfl

theorem keeps_letGo (p : Part) (x : Place) (u : Nat) (m : UnitMark) (passed : Bool) :
    Keeps [.st, .pnc] p (letGo p x u m passed) :=
  (keeps_modUnitAt p x u _).andThen (keeps_modRecord _ _ x)

theorem recordAt_letGo {p : Part} {x : Place} {b : Strip} {u : Nat} {e : UnitEntry} (record : recordAt p x = some b)
    (unit : b.units[u]? = some e) (m : UnitMark) (passed : Bool) :
    recordAt (letGo p x u m passed) x = some { b with
      units := b.units.set u { addMark m e with refs := e.refs - 1 }
      passed := if passed then inc b.passed else b.passed
      failed := if passed then b.failed else inc b.failed } := by
  rw [letGo, modUnitAt, recordAt_modRecord_same, recordAt_modRecord_same, record,
    ← modify_of_getElem? unit fun e => { addMark m e with refs := e.refs - 1 }]
  cases passed <;> rfl

theorem locate_letGo (p : Part) (x : Place) (u : Nat) (m : UnitMark) (passed : Bool) (n : BitVec 16) :
    locate (letGo p x u m passed) n = locate p n := by
  rw [letGo, locate_modRecord (fun s => by cases passed <;> rfl)]
  exact locate_modRecord (fun s => by rfl) p x n

theorem modRecord_config (p : Part) (f : Strip → Strip) (x : Place) (g : Side) :
    ((modRecord p f x).st.lanes.get g).config = (p.st.lanes.get g).config := by
  cases x with
  | lane l x =>
    simp only [modRecord, modLane_st, Two.get_set_eq_ite]
    split
    next e => subst e; cases x <;> rfl
    next => rfl
  | purged i => rfl

theorem letGo_config (p : Part) (x : Place) (u : Nat) (m : UnitMark) (passed : Bool) (g : Side) :
    ((letGo p x u m passed).st.lanes.get g).config = (p.st.lanes.get g).config := by
  rw [letGo, modRecord_config, modUnitAt, modRecord_config]

theorem setSelectionNumber_config (p : Part) (c : Context) (k : Option (BitVec 32)) (g : Side) :
    ((setSelectionNumber p c k).st.lanes.get g).config = (p.st.lanes.get g).config := by
  unfold setSelectionNumber
  split
  next => rfl
  next =>
    split
    next => rfl
    next => exact modRecord_config p _ _ g

/-- A unit that is not CLOSING, or still has references, takes no final status (R87). -/
theorem closeUnit_of_open {p : Part} {x : Place} {i : Nat}
    (stays : ∀ b e, recordAt p x = some b → b.units[i]? = some e → ¬(e.status = .closing ∧ e.refs = 0)) :
    closeUnit p x i = p := by
  unfold closeUnit
  split
  next => rfl
  next b record =>
    split
    next => rfl
    next e unit => exact if_neg (stays b e record unit)

/-- A CLOSING unit without references takes its final status: its selection entries leave the strip for the Pull
Record Unit, and the lane's MOVE_ASK is examined (R87, R88, R101). -/
theorem closeUnit_of_done {p : Part} {l : Side} {i : Nat} {b : Strip} {e : UnitEntry}
    (record : recordAt p (.lane l .bond) = some b) (unit : b.units[i]? = some e) (closing : e.status = .closing)
    (free : e.refs = 0) {final : UnitStatus} (status : final = finalStatus e (p.st.lanes.get b.lane).config.wires) :
    closeUnit p (.lane l .bond) i = examineMove (pullsOfUnit (modRecord p (fun s =>
      { s with
        units := s.units.modify i fun u => { u with status := final }
        selection := s.selection.filter fun e => e.unit != i }) (.lane l .bond)) b.number b.lane final
          (b.selection.filter fun y => y.unit == i)) l := by
  unfold closeUnit
  rw [record]
  dsimp only
  rw [unit]
  dsimp only
  rw [if_pos ⟨closing, free⟩, ← status]

theorem closeUnit_wb (p : Part) (x : Place) (i : Nat) : (closeUnit p x i).store.wb = p.store.wb := by
  unfold closeUnit
  split
  next => rfl
  next =>
    split
    next => rfl
    next =>
      split
      next =>
        have pulls := fun f s l final es => (pullsOfUnit_wb (modRecord p f x) s l final es).trans
          (congrArg RecordStore.wb (keeps_modRecord p f x .store (by decide)))
        cases x with
        | lane l _ =>
          exact (congrArg RecordStore.wb (keeps_examineMove _ l .store (by decide))).trans (pulls _ _ _ _ _)
        | purged _ => exact pulls _ _ _ _ _
      next => rfl

theorem keeps_examineBehind (p : Part) (x : Place) : Keeps movesBroken p (examineBehind p x) := by
  cases x with
  | lane l x =>
    cases x with
    | bond => exact keeps_examineMove p l
    | _ => exact .refl _ p
  | purged _ => exact .refl _ p

theorem examineBehind_config (p : Part) (x : Place) (g : Side) :
    ((examineBehind p x).st.lanes.get g).config = (p.st.lanes.get g).config := by
  cases x with
  | lane l x =>
    cases x with
    | bond => exact examineMove_config p l g
    | _ => rfl
  | purged _ => rfl

theorem releaseUnit_wb (p : Part) (h : Side) (u : Option UnitRef) (m : UnitMark) (passed : Bool) :
    (releaseUnit p h u m (some passed)).store.wb = p.store.wb := by
  cases lost : u.bind fun u => locate p u.strip with
  | none => rw [releaseUnit_outside lost]; rfl
  | some x =>
    obtain ⟨v, rfl, found⟩ := Option.bind_eq_some_iff.1 lost
    rw [releaseUnit_of_found found, keeps_examineBehind _ _ .store (by decide), closeUnit_wb,
      keeps_letGo _ _ _ _ _ .store (by decide)]

end Sys2Proof.Machine
end


section
/-! PROOFS. The issue of a verdict (O36): what each of its eight effects does (R20). -/

namespace Sys2Proof.Machine

-- One proof after another: every thread of a compile reserves its own stack.
set_option Elab.async false

/-! ## The release, by what it finds (R23, R87) -/

/-- No final status: the map cache, the store and the lane configurations are as they were. -/
theorem releaseUnit_of_open {p : Part} {r : Option UnitRef}
    (stays : ∀ u x b e, r = some u → locate p u.strip = some x → recordAt p x = some b → b.units[u.unit]? = some e →
      e.status = .closing → 1 < e.refs) (h : Side) (m : UnitMark) (passed : Bool) :
    (releaseUnit p h r m (some passed)).map = p.map ∧ (releaseUnit p h r m (some passed)).store = p.store ∧
      ∀ g, ((releaseUnit p h r m (some passed)).st.lanes.get g).config = (p.st.lanes.get g).config := by
  cases lost : r.bind fun u => locate p u.strip with
  | none =>
    rw [releaseUnit_outside lost]
    exact ⟨rfl, rfl, fun _ => rfl⟩
  | some x =>
    obtain ⟨u, rfl, found⟩ := Option.bind_eq_some_iff.1 lost
    have unclosed : closeUnit (letGo p x u.unit m passed) x u.unit = letGo p x u.unit m passed := by
      refine closeUnit_of_open fun b' e' record' unit' ⟨closing, free⟩ => ?_
      obtain ⟨b, record⟩ : ∃ b, recordAt p x = some b := by
        rw [letGo, modUnitAt, recordAt_modRecord_same, recordAt_modRecord_same] at record'
        cases record : recordAt p x with
        | none => rw [record] at record'; cases record'
        | some b => exact ⟨b, rfl⟩
      have units : b'.units = b.units.modify u.unit fun e => { addMark m e with refs := e.refs - 1 } := by
        rw [letGo, modUnitAt, recordAt_modRecord_same, recordAt_modRecord_same, record] at record'
        cases record'
        cases passed <;> rfl
      rw [units, List.getElem?_modify_eq] at unit'
      cases unit : b.units[u.unit]? with
      | none => rw [unit] at unit'; cases unit'
      | some e =>
        rw [unit] at unit'
        cases unit'
        have status : e.status = .closing := by cases m <;> exact closing
        have more := stays u x b e rfl found record unit status
        have few : e.refs - 1 = 0 := free
        omega
    rw [releaseUnit_of_found found, unclosed]
    have released := (keeps_letGo p x u.unit m passed).trans (keeps_examineBehind (letGo p x u.unit m passed) x)
    exact ⟨released .map (by decide), released .store (by decide),
      fun g => (examineBehind_config _ x g).trans (letGo_config p x u.unit m passed g)⟩

/-- An ACTIVE unit takes its mark and gives up a reference, and its strip stays where it is (R23, R88). -/
theorem releaseUnit_of_active {p : Part} {u : UnitRef} {x : Place} {b : Strip} {e : UnitEntry}
    (found : locate p u.strip = some x) (record : recordAt p x = some b) (unit : b.units[u.unit]? = some e)
    (active : e.status = .active) (h : Side) (m : UnitMark) (passed : Bool) :
    releaseUnit p h (some u) m (some passed) = letGo p x u.unit m passed := by
  have kept := recordAt_letGo record unit m passed
  let e' := { addMark m e with refs := e.refs - 1 }
  have status : e'.status = .active := by cases m <;> exact active
  obtain ⟨hlt, -⟩ := List.getElem?_eq_some_iff.1 unit
  have unclosed : closeUnit (letGo p x u.unit m passed) x u.unit = letGo p x u.unit m passed := by
    refine closeUnit_of_open fun b' d record' unit' ⟨closing, _⟩ => ?_
    rw [kept] at record'
    cases record'
    rw [List.getElem?_set_self hlt] at unit'
    cases unit'
    exact absurd (status.symm.trans closing) (by decide)
  rw [releaseUnit_of_found found, unclosed]
  cases x with
  | lane l x =>
    cases x with
    | bond => exact examineMove_of_unfinished (e := e') kept (List.mem_set hlt _) (by rw [status]; rfl)
    | _ => rfl
  | purged _ => rfl

/-- What a final status makes of the strip at BOND. -/
def finished (b : Strip) (i : Nat) (e : UnitEntry) (passed : Bool) (final : UnitStatus) : Strip :=
  { b with
    passed := if passed then inc b.passed else b.passed
    failed := if passed then b.failed else inc b.failed
    units := b.units.set i { e with status := final }
    selection := b.selection.filter fun y => y.unit != i }

/-- The part with the unit `i` of the strip at the BOND position of lane `l` at its final status, its selection entries
gone (R87, R101). -/
def closedAt (p : Part) (l : Side) (i : Nat) (m : UnitMark) (passed : Bool) (final : UnitStatus) : Part :=
  modRecord (letGo p (.lane l .bond) i m passed) (fun s =>
    { s with
      units := s.units.modify i fun u => { u with status := final }
      selection := s.selection.filter fun e => e.unit != i }) (.lane l .bond)

theorem keeps_closedAt (p : Part) (l : Side) (i : Nat) (m : UnitMark) (passed : Bool) (final : UnitStatus) :
    Keeps [.st, .pnc] p (closedAt p l i m passed final) :=
  (keeps_letGo p _ i m passed).andThen (keeps_modRecord _ _ _)

theorem exitsKept_closedAt (p : Part) (l : Side) (i : Nat) (m : UnitMark) (passed : Bool) (final : UnitStatus) :
    ExitsKept p (closedAt p l i m passed final) :=
  (exitsKept_modBondUnit p l i _).trans ((exitsKept_modBond _ l _).trans (exitsKept_modBond _ l _))

theorem pullsOfUnit_reject (p : Part) (strip : BitVec 16) (l : Side) (es : List SelEntry) :
    pullsOfUnit p strip l .reject es =
      countPulls p fun c => { c with selDropped := incMany es.length c.selDropped } := if_pos rfl

theorem pullsOfUnit_of_ne {final : UnitStatus} (good : final ≠ .reject) (p : Part) (strip : BitVec 16) (l : Side)
    (es : List SelEntry) : pullsOfUnit p strip l final es = es.foldl (appendPull strip l) p := if_neg good

section Done

variable {p : Part} {u : UnitRef} {l : Side} {b : Strip} {e e' : UnitEntry} {m : UnitMark} {passed : Bool}
  {final : UnitStatus}

theorem recordAt_closedAt (record : recordAt p (.lane l .bond) = some b) (unit : b.units[u.unit]? = some e)
    (marked : e' = { addMark m e with refs := e.refs - 1 }) :
    recordAt (closedAt p l u.unit m passed final) (.lane l .bond) = some (finished b u.unit e' passed final) := by
  have unit' : (b.units.set u.unit e')[u.unit]? = some e' :=
    List.getElem?_set_self (List.getElem?_eq_some_iff.1 unit).1
  rw [closedAt, recordAt_modRecord_same, recordAt_letGo record unit, ← marked, Option.map_some,
    modify_of_getElem? unit', List.set_set]
  rfl

/-- A CLOSING unit whose last reference goes takes its final status; its selection entries go to the Pull Record
Unit, and the lane's MOVE_ASK is examined (R87, R88, R101). -/
theorem releaseUnit_of_done (found : locate p u.strip = some (.lane l .bond))
    (record : recordAt p (.lane l .bond) = some b) (unit : b.units[u.unit]? = some e) (closing : e.status = .closing)
    (last : e.refs ≤ 1) (h : Side) (marked : e' = { addMark m e with refs := e.refs - 1 })
    (status : final = finalStatus e' (p.st.lanes.get b.lane).config.wires) :
    releaseUnit p h (some u) m (some passed) = examineMove (pullsOfUnit (closedAt p l u.unit m passed final) b.number
      b.lane final (b.selection.filter fun y => y.unit == u.unit)) l := by
  have kept := recordAt_letGo record unit m passed
  rw [← marked] at kept
  have unit' : (b.units.set u.unit e')[u.unit]? = some e' :=
    List.getElem?_set_self (List.getElem?_eq_some_iff.1 unit).1
  have ends := closeUnit_of_done kept unit' (by rw [marked]; cases m <;> exact closing)
    (by rw [marked]; exact Nat.sub_eq_zero_of_le last) (status.trans (by rw [letGo_config]))
  rw [releaseUnit_of_found found, ends]
  exact examineMove_examineMove _ l

/-- The strip then stands at BOND, or at EXIT by a MOVE_ASK (R88, R89). -/
theorem recordAt_of_done (record : recordAt p (.lane l .bond) = some b) (unit : b.units[u.unit]? = some e)
    (marked : e' = { addMark m e with refs := e.refs - 1 }) (es : List SelEntry) :
    ∃ z : Position, (z = .bond ∨ (z = .exit ∧ (p.st.lanes.get l).moveAsk ≠ none)) ∧
      recordAt (examineMove (pullsOfUnit (closedAt p l u.unit m passed final) b.number b.lane final es) l) (.lane l z) =
        some (finished b u.unit e' passed final) := by
  have given : (pullsOfUnit (closedAt p l u.unit m passed final) b.number b.lane final es).st =
      (closedAt p l u.unit m passed final).st := keeps_pullsOfUnit _ _ _ _ _ .st (by decide)
  generalize pullsOfUnit (closedAt p l u.unit m passed final) b.number b.lane final es = q at given ⊢
  have record' := (recordAt_congr given _).trans (recordAt_closedAt (passed := passed) (final := final) record unit marked)
  rcases examineMove_cases q l with same | moved
  · exact ⟨.bond, .inl rfl, by rw [same]; exact record'⟩
  · have asked := moved.asked
    rw [given, (exitsKept_closedAt p l u.unit m passed final l).2.2] at asked
    exact ⟨.exit, .inr ⟨rfl, asked⟩, moved.exit.trans record'⟩

/-- The selection entries of a REJECT unit are dropped and counted (R101). -/
theorem pulls_of_reject (es : List SelEntry) (n : BitVec 16) (g : Side) :
    let q := examineMove (pullsOfUnit (closedAt p l u.unit m passed .reject) n g .reject es) l
    q.pru.pulls = p.pru.pulls ∧ q.pru.counters.selDropped = incMany es.length p.pru.counters.selDropped := by
  have pru : (closedAt p l u.unit m passed .reject).pru = p.pru := keeps_closedAt p l u.unit m passed .reject .pru (by decide)
  rw [pullsOfUnit_reject]
  generalize closedAt p l u.unit m passed .reject = q at pru ⊢
  obtain ⟨pulls, counters⟩ := keeps_examineMove
    (countPulls q fun c => { c with selDropped := incMany es.length c.selDropped }) l .pulls (by decide)
  dsimp only
  rw [pulls, counters, ← pru]
  exact ⟨rfl, rfl⟩

/-- The entries of any other unit are appended to the pending pulls (R101, R103). -/
theorem pulls_of_good (good : final ≠ .reject) {es : List SelEntry} {n : BitVec 16} (g : Side)
    (own : ∀ y ∈ es, y.pullClass ≠ none ∧ y.unit = u.unit) (apart : es.Pairwise (fun y z => y.wire ≠ z.wire))
    (fresh : ∀ y ∈ es, ∀ z ∈ p.pru.pulls, ¬(z.strip = n ∧ z.unit = u.unit ∧ z.wire = y.wire))
    (room : p.pru.pulls.length + es.length ≤ 64) :
    (examineMove (pullsOfUnit (closedAt p l u.unit m passed final) n g final es) l).pru.pulls =
      p.pru.pulls ++ es.map (pullOf n g) := by
  have pru : (closedAt p l u.unit m passed final).pru = p.pru := keeps_closedAt p l u.unit m passed final .pru (by decide)
  rw [pullsOfUnit_of_ne good]
  generalize closedAt p l u.unit m passed final = q at pru ⊢
  rw [← pru] at fresh room ⊢
  have kept := keeps_examineMove (es.foldl (appendPull n g) q) l .pulls (by decide)
  exact kept.1.trans (foldl_appendPull n g u.unit es q own apart fresh room)

end Done

/-! ## The record number of a sample (R24) -/

/-- A selection entry with the record number `k` of a bond of its phase (R24). -/
def withNumber (k : Option (BitVec 32)) (y : SelEntry) : Phase → SelEntry
  | .ball => { y with ball := k }
  | .stitch => { y with stitch := k }

/-- A strip with the record number `k` of a bond of `u` in its selection (R24). -/
def numbered (c : Context) (u : UnitRef) (k : Option (BitVec 32)) (s : Strip) : Strip :=
  { s with
    selection := if s.sampled then
      s.selection.map fun y => if y.unit = u.unit ∧ y.wire = c.wire then withNumber k y c.phase else y
      else s.selection }

theorem setSelectionNumber_of_found {p : Part} {c : Context} {u : UnitRef} {x : Place} (unit : c.unitRef = some u)
    (found : locate p u.strip = some x) (k : Option (BitVec 32)) :
    setSelectionNumber p c k = modRecord p (numbered c u k) x := by
  simp only [setSelectionNumber, unit, found]
  refine congrArg (fun f => modRecord p f x) (funext fun s => ?_)
  unfold numbered
  by_cases sampled : s.sampled = true
  · rw [if_pos sampled, if_pos sampled]
    cases c.phase <;> rfl
  · rw [if_neg sampled, if_neg sampled]

/-- A strip without entries of the unit stays as it is. -/
theorem recordAt_setSelectionNumber_of_absent {p : Part} {c : Context} {u : UnitRef} {x : Place} {b : Strip}
    (unit : c.unitRef = some u) (record : recordAt p x = some b) (absent : ∀ y ∈ b.selection, y.unit ≠ u.unit)
    (k : Option (BitVec 32)) : recordAt (setSelectionNumber p c k) x = some b := by
  cases found : locate p u.strip with
  | none =>
    unfold setSelectionNumber
    rw [unit]
    dsimp only
    rw [found]
    exact record
  | some y =>
    rw [setSelectionNumber_of_found unit found]
    by_cases e : x = y
    · have same : numbered c u k b = b := by
        unfold numbered
        split
        next =>
          have fixed : b.selection.map (fun y =>
              if y.unit = u.unit ∧ y.wire = c.wire then withNumber k y c.phase else y) = b.selection :=
            (List.map_congr_left fun y hy => if_neg fun h => absent y hy h.1).trans (List.map_id _)
          rw [fixed]
        next => rfl
      rw [← e, recordAt_modRecord_same, record, Option.map_some, same]
    · rw [recordAt_modRecord_other _ _ e, record]

end Sys2Proof.Machine
end


section
/-! PROOFS. The issue of a verdict (O36): when it happens (R19), and its effects together (R20). -/

namespace Sys2Proof.Machine

-- One proof after another: every thread of a compile reserves its own stack.
set_option Elab.async false

/-! ## When an issue happens (R19) -/

theorem oldestJudged_eq_some_iff (ch : Channel) (i : Fin 4) (c : Context) (j : Judgement) :
    oldestJudged ch = some (i, c, j) ↔
      ∃ rest, ch.order = i :: rest ∧ ch.contexts.get i = some c ∧ c.state = .judged j := by
  unfold oldestJudged
  constructor
  · intro h
    split at h
    next => cases h
    next k rest order =>
      split at h
      next => cases h
      next d context =>
        split at h
        next state =>
          cases h
          exact ⟨rest, order, context, state⟩
        next => cases h
        next => cases h
  · rintro ⟨rest, order, context, state⟩
    simp only [order, context, state]

/-- The write slot that an issue in service occupies (R21). -/
def lowestFree (s : Two (Option (BitVec 32))) : Side := if s.zero = none then .zero else .one

theorem freeSlot_eq_none_iff (ch : Channel) : freeSlot ch = none ↔ ¬(ch.slots.zero = none ∨ ch.slots.one = none) := by
  unfold freeSlot
  cases ch.slots.zero <;> cases ch.slots.one <;> simp

theorem freeSlot_of_free {ch : Channel} (free : ch.slots.zero = none ∨ ch.slots.one = none) :
    freeSlot ch = some (lowestFree ch.slots) := by
  unfold freeSlot lowestFree
  cases zero : ch.slots.zero with
  | none => rfl
  | some k =>
    obtain one : ch.slots.one = none := free.resolve_left (by simp [zero])
    rw [one]
    rfl

/-- The slot of an issue: none out of service. -/
def issueSlot (p : Part) (h : Side) : Option Side :=
  if inService p then some (lowestFree (p.bm.channels.get h).slots) else none

theorem issueOne_of_ready {p : Part} {h : Side} {i : Fin 4} {c : Context} {j : Judgement}
    (on : (p.bm.channels.get h).on = true) (oldest : oldestJudged (p.bm.channels.get h) = some (i, c, j))
    (room : inService p = false ∨ (p.bm.channels.get h).slots.zero = none ∨ (p.bm.channels.get h).slots.one = none) :
    issueOne p h = some (issueVerdict p h i c j (issueSlot p h)) := by
  unfold issueOne issueSlot
  dsimp only
  rw [on, oldest]
  cases serves : inService p with
  | false => rfl
  | true =>
    have free := freeSlot_of_free (room.resolve_left (by simp [serves]))
    simp [free]

theorem issueOne_ready {p q : Part} {h : Side} (issued : issueOne p h = some q) :
    (p.bm.channels.get h).on = true ∧ (∃ i c j, oldestJudged (p.bm.channels.get h) = some (i, c, j)) ∧
    (inService p = false ∨ (p.bm.channels.get h).slots.zero = none ∨ (p.bm.channels.get h).slots.one = none) := by
  unfold issueOne at issued
  dsimp only at issued
  split at issued
  next => cases issued
  next on =>
    split at issued
    next => cases issued
    next i c j oldest =>
      refine ⟨by simpa using on, ⟨i, c, j, oldest⟩, ?_⟩
      split at issued
      next =>
        split at issued
        next => cases issued
        next x free =>
          refine .inr (Decidable.not_not.1 fun full => ?_)
          rw [(freeSlot_eq_none_iff _).2 full] at free
          cases free
      next serves => exact .inl (by simpa using serves)

/-- The three conditions of an issue (R19). -/
theorem issueOne_ne_none_iff (p : Part) (h : Side) : issueOne p h ≠ none ↔
    (p.bm.channels.get h).on = true ∧
    (∃ i rest c j, (p.bm.channels.get h).order = i :: rest ∧ (p.bm.channels.get h).contexts.get i = some c ∧
      c.state = .judged j) ∧
    (inService p = false ∨ (p.bm.channels.get h).slots.zero = none ∨ (p.bm.channels.get h).slots.one = none) := by
  constructor
  · intro issues
    obtain ⟨q, issued⟩ := Option.ne_none_iff_exists'.1 issues
    obtain ⟨on, ⟨i, c, j, oldest⟩, room⟩ := issueOne_ready issued
    obtain ⟨rest, judged⟩ := (oldestJudged_eq_some_iff _ i c j).1 oldest
    exact ⟨on, ⟨i, rest, c, j, judged⟩, room⟩
  · rintro ⟨on, ⟨i, rest, c, j, judged⟩, room⟩
    rw [issueOne_of_ready on ((oldestJudged_eq_some_iff _ i c j).2 ⟨rest, judged⟩) room]
    exact Option.some_ne_none _

/-! ## The record and its notice (R20 steps 1 and 2) -/

/-- The part with the bond's record handed in (R20 step 1). -/
def written (p : Part) (c : Context) (j : Judgement) : Option Side → Part
  | some x => writeBondRecord p c j x
  | none => p

theorem keeps_written {p : Part} {slot : Option Side} (serves : slot.isSome = true → inService p = true) (c : Context)
    (j : Judgement) : Keeps [.rp, .store, .bm] p (written p c j slot) := by
  cases slot with
  | none => exact .refl _ p
  | some x => exact keeps_writeBondRecord (serves rfl) c j x

theorem writeBondRecord_channels (p : Part) (c : Context) (j : Judgement) (slot : Side) :
    (writeBondRecord p c j slot).bm.channels = p.bm.channels.set c.head { p.bm.channels.get c.head with
      slots := (p.bm.channels.get c.head).slots.set slot (some p.store.wb) } := by
  unfold writeBondRecord
  dsimp only
  split
  next => rw [offerBondWrap_bm]; simp [modChannel_channels]
  next => simp [modChannel_channels]

/-- The part as an issue releases the unit: record, VERDICT notice and fail action are done (R20 steps 1 to 3). -/
def reported (p : Part) (c : Context) (j : Judgement) (slot : Option Side) : Part :=
  failAction (offerVerdict (written p c j slot) c j (slot.map fun _ => p.store.wb)) c j

theorem keeps_reported (p : Part) (c : Context) (j : Judgement) (slot : Option Side) :
    Keeps raiseBroken (written p c j slot) (reported p c j slot) :=
  (keeps_offerVerdict _ c j _).andThen (keeps_failAction _ c j)

/-- An issue from the release of the unit on (R20 steps 5 to 8). -/
def issueEnd (r : Part) (h : Side) (i : Fin 4) (c : Context) (j : Judgement) (k : Option (BitVec 32)) : Part :=
  freeContext (recordIssue (prefetch (setSelectionNumber r c k) c) h j) h i

theorem keeps_issueEnd (r : Part) (h : Side) (i : Fin 4) (c : Context) (j : Judgement) (k : Option (BitVec 32)) :
    Keeps [.st, .pnc, .store, .map, .bm] r (issueEnd r h i c j k) :=
  ((keeps_setSelectionNumber r c k).trans (keeps_prefetch _ c)).andThen
    ((keeps_recordIssue _ h j).trans (keeps_freeContext _ h i))

theorem issueVerdict_eq (p : Part) (h : Side) (i : Fin 4) (c : Context) (j : Judgement) (slot : Option Side) :
    issueVerdict p h i c j slot = issueEnd (releaseUnit (reported p c j slot) h c.unitRef (unitMarkOf j)
      (some (j.verdict == .pass))) h i c j (slot.map fun _ => p.store.wb) := by
  cases slot <;> rfl

theorem offerVerdict_of_admitted {p : Part} {j : Judgement}
    (admitted : p.cu.select.verdicts = .all ∨ (p.cu.select.verdicts = .fails ∧ j.verdict ≠ .pass)) (c : Context)
    (k : Option (BitVec 32)) : offerVerdict p c j k = offerNotice p 1 (verdictNotice c j k) := by
  rcases admitted with all | ⟨fails, failed⟩
  · simp [offerVerdict, offerIf, all]
  · simp [offerVerdict, offerIf, fails, failed]

theorem bondAlarm_of_alarmKindOf (v : Verdict) : isBondAlarm (alarmKindOf v) = true := by
  cases v <;> rfl

theorem alarmKindOf_eq_ite (v : Verdict) : alarmKindOf v =
    if v = .unmapped then .unmapped else if v = .noProgram then .noProgram else .bondFault := by
  cases v <;> rfl

theorem bondSubject_eq (u : Option UnitRef) (wire : Nat) :
    bondSubject u wire = ⟨u.map UnitRef.strip, u.map UnitRef.unit, some wire⟩ := by
  cases u <;> rfl

/-- A bond alarm of one head leaves the set of the other (R22, R129). -/
theorem addHeadReason_other {k : AlarmKind} (bond : isBondAlarm k = true) (h : Side) (x : HeadHolds) :
    addHeadReason k (.head h) h.other x = x := by
  have apart : AlarmSource.head h ≠ .head h.other := by cases h <;> decide
  cases k <;> simp [isBondAlarm] at bond <;> exact if_neg apart

/-! ## The prefetch (R44) -/

/-- The conditions of a prefetch (R44). -/
def prefetches (p : Part) (c : Context) (key : MapKey) : Prop :=
  c.phase = .stitch ∧ inService p = true ∧ cachedEntry p.map key = none ∧ inFlight p.map key = false ∧
    p.map.fetches.length ≤ 2

theorem prefetch_of_wanted {p : Part} {c : Context} {key : MapKey}
    (next : key = nextKey c (p.st.lanes.get c.head).config.wires) (wanted : prefetches p c key) :
    prefetch p c = countMap (startFetch p key []) fun k => { k with prefetches := inc k.prefetches } := by
  obtain ⟨stitch, serves, uncached, absent, room⟩ := wanted
  unfold prefetch
  dsimp only
  rw [← next]
  exact if_pos ⟨stitch, serves, by simp [uncached], by simp [absent], Nat.add_le_add_right room 2⟩

theorem prefetch_of_unwanted {p : Part} {c : Context} {key : MapKey}
    (next : key = nextKey c (p.st.lanes.get c.head).config.wires) (unwanted : ¬prefetches p c key) :
    prefetch p c = p := by
  unfold prefetch
  dsimp only
  rw [← next]
  refine if_neg fun ⟨stitch, serves, uncached, absent, room⟩ => unwanted
    ⟨stitch, serves, by simpa using uncached, by simpa using absent, Nat.le_of_add_le_add_right room⟩

theorem prefetch_wb (p : Part) (c : Context) : (prefetch p c).store.wb = p.store.wb := by
  unfold prefetch
  dsimp only
  split
  next => exact (enqueue_spec p _).2.2.2.1
  next => rfl

theorem issueEnd_map_store (r : Part) (h : Side) (i : Fin 4) (c : Context) (j : Judgement) (k : Option (BitVec 32)) :
    (issueEnd r h i c j k).map = (prefetch (setSelectionNumber r c k) c).map ∧
      (issueEnd r h i c j k).store = (prefetch (setSelectionNumber r c k) c).store :=
  have ends := (keeps_recordIssue (prefetch (setSelectionNumber r c k) c) h j).trans (keeps_freeContext _ h i)
  ⟨ends .map (by decide), ends .store (by decide)⟩

theorem issueEnd_st (r : Part) (h : Side) (i : Fin 4) (c : Context) (j : Judgement) (k : Option (BitVec 32)) :
    (issueEnd r h i c j k).st = (setSelectionNumber r c k).st :=
  ((keeps_prefetch _ c).trans ((keeps_recordIssue _ h j).trans (keeps_freeContext _ h i))) .st (by decide)

theorem nextKey_eq (c : Context) (wires : Nat) :
    nextKey c wires = ⟨c.bank, if c.wire + 1 < wires then c.wire + 1 else 0⟩ := by
  unfold nextKey
  split <;> rfl

/-! ## The channel (R20 steps 7 and 8) -/

theorem issueEnd_channels (r : Part) (h : Side) (i : Fin 4) (c : Context) (j : Judgement) (k : Option (BitVec 32)) :
    (issueEnd r h i c j k).bm.channels = r.bm.channels.set h { r.bm.channels.get h with
      contexts := vset (r.bm.channels.get h).contexts i none
      order := (r.bm.channels.get h).order.filter fun x => x != i
      last := some ⟨j.verdict, j.energy, j.deform⟩
      counters := { (r.bm.channels.get h).counters with
        issued := inc (r.bm.channels.get h).counters.issued
        failed := if j.verdict = .pass then (r.bm.channels.get h).counters.failed
          else inc (r.bm.channels.get h).counters.failed } } := by
  have bm : (prefetch (setSelectionNumber r c k) c).bm = r.bm :=
    ((keeps_setSelectionNumber r c k).trans (keeps_prefetch _ c)) .bm (by decide)
  have issued : ∀ q : Part, (recordIssue q h j).bm.channels = q.bm.channels.set h { q.bm.channels.get h with
      last := some ⟨j.verdict, j.energy, j.deform⟩
      counters := { (q.bm.channels.get h).counters with
        issued := inc (q.bm.channels.get h).counters.issued
        failed := if j.verdict = .pass then (q.bm.channels.get h).counters.failed
          else inc (q.bm.channels.get h).counters.failed } } := fun _ => rfl
  rw [issueEnd, freeContext, modChannel_channels, issued, bm]
  cases h <;> rfl

/-- The release counts a bond outside, and nothing else, when its strip is not found (R23). -/
theorem releaseUnit_channels (p : Part) (h : Side) (r : Option UnitRef) (m : UnitMark) (passed : Bool) :
    (releaseUnit p h r m (some passed)).bm.channels = p.bm.channels.set h { p.bm.channels.get h with
      counters := { (p.bm.channels.get h).counters with
        outsideUnit := if (r.bind fun u => locate p u.strip) = none then inc (p.bm.channels.get h).counters.outsideUnit
          else (p.bm.channels.get h).counters.outsideUnit } } := by
  cases lost : r.bind fun u => locate p u.strip with
  | none =>
    rw [releaseUnit_outside lost]
    rfl
  | some x =>
    obtain ⟨u, rfl, found⟩ := Option.bind_eq_some_iff.1 lost
    rw [releaseUnit_bm_of_found found, if_neg (by simp)]
    cases h <;> rfl

theorem written_channels (p : Part) (c : Context) (j : Judgement) (slot : Option Side) :
    (written p c j slot).bm.channels = p.bm.channels.set c.head { p.bm.channels.get c.head with
      slots := slot.elim (p.bm.channels.get c.head).slots fun x =>
        (p.bm.channels.get c.head).slots.set x (some p.store.wb) } := by
  cases slot with
  | some x => exact writeBondRecord_channels p c j x
  | none =>
    show p.bm.channels = _
    cases c.head <;> rfl

section Issue

variable {p : Part} {c : Context} {j : Judgement} {slot : Option Side}

theorem keeps_beforeRelease (serves : slot.isSome = true → inService p = true) :
    Keeps [.rp, .store, .bm, .ahu, .heads, .feeders, .bondAlarms, .pnc] p (reported p c j slot) :=
  (keeps_written serves c j).andThen (keeps_reported p c j slot)

/-- The channel of the issue: the context is FREE, the slot taken, and the issue counted (R20, R21, R23). -/
theorem issueVerdict_channels (serves : slot.isSome = true → inService p = true) (i : Fin 4) :
    (issueVerdict p c.head i c j slot).bm.channels = p.bm.channels.set c.head { p.bm.channels.get c.head with
      contexts := vset (p.bm.channels.get c.head).contexts i none
      order := (p.bm.channels.get c.head).order.filter fun x => x != i
      last := some ⟨j.verdict, j.energy, j.deform⟩
      slots := slot.elim (p.bm.channels.get c.head).slots fun x =>
        (p.bm.channels.get c.head).slots.set x (some p.store.wb)
      counters := { (p.bm.channels.get c.head).counters with
        issued := inc (p.bm.channels.get c.head).counters.issued
        failed := if j.verdict = .pass then (p.bm.channels.get c.head).counters.failed
          else inc (p.bm.channels.get c.head).counters.failed
        outsideUnit := if (c.unitRef.bind fun u => locate p u.strip) = none then
            inc (p.bm.channels.get c.head).counters.outsideUnit
          else (p.bm.channels.get c.head).counters.outsideUnit } } := by
  have found : (fun u : UnitRef => locate (reported p c j slot) u.strip) = fun u => locate p u.strip :=
    funext fun u => locate_congr (keeps_beforeRelease serves .st (by decide)) _
  have bm : (reported p c j slot).bm = (written p c j slot).bm := keeps_reported p c j slot .bm (by decide)
  rw [issueVerdict_eq, issueEnd_channels, releaseUnit_channels, found, bm, written_channels]
  generalize c.head = h
  cases h <;> rfl

/-- What an issue leaves behind the release of its unit: nothing but the strips, the channel and what a prefetch and
the marks of the panels change. -/
theorem keeps_afterReport (i : Fin 4) (h : Side) :
    Keeps releaseBroken (reported p c j slot) (issueVerdict p h i c j slot) := by
  rw [issueVerdict_eq]
  exact (keeps_releaseUnit (reported p c j slot) h c.unitRef _ _).andThen (keeps_issueEnd _ h i c j _)

/-- The queue behind the record of the bond only grows, and stays as it is out of service (R57). -/
theorem issueVerdict_queue (h : Side) (i : Fin 4) :
    (written p c j slot).store.queue <+: (issueVerdict p h i c j slot).store.queue ∧
      (inService (written p c j slot) = false →
        (issueVerdict p h i c j slot).store.queue = (written p c j slot).store.queue) := by
  have store : (reported p c j slot).store = (written p c j slot).store := keeps_reported p c j slot .store (by decide)
  obtain ⟨new, grown⟩ := keeps_afterReport (p := p) (c := c) (j := j) (slot := slot) i h .growth (by decide)
  rw [store] at grown
  refine ⟨grown.queue ▸ List.prefix_append _ _, fun out => ?_⟩
  rw [inService_eq_serves] at out
  obtain ⟨rfl, -⟩ := grown.outOfService out
  rw [grown.queue, List.append_nil]

theorem issueVerdict_wb (h : Side) (i : Fin 4) :
    (issueVerdict p h i c j slot).store.wb = (written p c j slot).store.wb := by
  rw [issueVerdict_eq, (issueEnd_map_store _ h i c j _).2, prefetch_wb, keeps_setSelectionNumber _ _ _ .store (by decide),
    releaseUnit_wb, keeps_reported p c j slot .store (by decide)]

/-- The outbound queue goes on from what the record left, and from the VERDICT notice if it is admitted (R25). -/
theorem issueVerdict_outbound (serves : slot.isSome = true → inService p = true) (h : Side) (i : Fin 4) :
    (p.cu.select.verdicts = .all ∨ (p.cu.select.verdicts = .fails ∧ j.verdict ≠ .pass) →
      (offerNotice (written p c j slot) 1 (verdictNotice c j (slot.map fun _ => p.store.wb))).rp.outbound <+:
        (issueVerdict p h i c j slot).rp.outbound) ∧
    (written p c j slot).rp.outbound <+: (issueVerdict p h i c j slot).rp.outbound := by
  have cu : (written p c j slot).cu = p.cu := keeps_written serves c j .cu (by decide)
  have behind : Law.Holds (offerVerdict (written p c j slot) c j (slot.map fun _ => p.store.wb))
      (issueVerdict p h i c j slot) .outbound :=
    Law.trans (keeps_failAction _ c j .outbound (by decide)) (keeps_afterReport i h .outbound (by decide))
  refine ⟨fun admitted => ?_, (keeps_offerVerdict (written p c j slot) c j _ .outbound (by decide)).trans behind⟩
  rw [← cu] at admitted
  rw [← offerVerdict_of_admitted admitted]
  exact behind

/-- A failing verdict whose action is not LOG has its alarm in the list and its reason in the set of its head (R22). -/
theorem issueVerdict_alarm (serves : slot.isSome = true → inService p = true) (i : Fin 4) (failed : j.verdict ≠ .pass)
    (action : j.action ≠ .log) :
    (∃ a ∈ (issueVerdict p c.head i c j slot).ahu.alarms, a.kind = alarmKindOf j.verdict ∧ a.source = .head c.head ∧
      a.subject = some ⟨c.unitRef.map UnitRef.strip, c.unitRef.map UnitRef.unit, some c.wire⟩) ∧
    ∀ g, (issueVerdict p c.head i c j slot).ahu.heads.get g =
      addHeadReason (alarmKindOf j.verdict) (.head c.head) g (p.ahu.heads.get g) := by
  let offered := offerVerdict (written p c j slot) c j (slot.map fun _ => p.store.wb)
  have raised : reported p c j slot = raiseAlarm offered (alarmKindOf j.verdict) (.head c.head)
      (some (bondSubject c.unitRef c.wire)) := if_neg fun quiet => quiet.elim failed action
  have ahu : offered.ahu = p.ahu :=
    ((keeps_written serves c j).trans (keeps_offerVerdict _ c j _)) .ahu (by decide)
  have after := keeps_afterReport (p := p) (c := c) (j := j) (slot := slot) i c.head
  rw [raised] at after
  refine ⟨?_, fun g => ?_⟩
  · obtain ⟨a, listed, kind, source, subject⟩ := exists_raised offered (alarmKindOf j.verdict) (.head c.head)
      (some (bondSubject c.unitRef c.wire))
    exact ⟨a, after .bondAlarms (by decide) a listed (by rw [kind]; exact bondAlarm_of_alarmKindOf _), kind, source,
      subject.trans (congrArg some (bondSubject_eq _ _))⟩
  · rw [show (issueVerdict p c.head i c j slot).ahu.heads = _ from after .heads (by decide), raiseAlarm_heads, ahu]

theorem issueVerdict_heads_of_quiet (serves : slot.isSome = true → inService p = true) (h : Side) (i : Fin 4)
    (quiet : ¬(j.verdict ≠ .pass ∧ j.action ≠ .log)) : (issueVerdict p h i c j slot).ahu.heads = p.ahu.heads := by
  have same : reported p c j slot = offerVerdict (written p c j slot) c j (slot.map fun _ => p.store.wb) :=
    if_pos (by simpa [or_iff_not_imp_left] using quiet)
  have before : Keeps [.rp, .store, .bm] p (reported p c j slot) :=
    same ▸ (keeps_written serves c j).andThen (keeps_offerVerdict _ c j _)
  exact Law.trans (before .heads (by decide)) (keeps_afterReport i h .heads (by decide))

/-- With no final status the map cache changes by a prefetch alone (R44). -/
theorem issueVerdict_map (serves : slot.isSome = true → inService p = true)
    (stays : ∀ u x b e, c.unitRef = some u → locate p u.strip = some x → recordAt p x = some b →
      b.units[u.unit]? = some e → e.status = .closing → 1 < e.refs) (i : Fin 4) {key : MapKey}
    (next : key = nextKey c (p.st.lanes.get c.head).config.wires) :
    (issueVerdict p c.head i c j slot).map.slots = p.map.slots ∧
    (prefetches p c key →
      (issueVerdict p c.head i c j slot).map.fetches = p.map.fetches ++ [⟨key, false, []⟩] ∧
      (issueVerdict p c.head i c j slot).store.queue = (written p c j slot).store.queue ++ [fetchRequest p key] ∧
      (issueVerdict p c.head i c j slot).map.counters =
        { p.map.counters with prefetches := inc p.map.counters.prefetches }) ∧
    (¬prefetches p c key → (issueVerdict p c.head i c j slot).map = p.map ∧
      (issueVerdict p c.head i c j slot).store.queue = (written p c j slot).store.queue) := by
  have before := keeps_beforeRelease (c := c) (j := j) serves
  have st : (reported p c j slot).st = p.st := before .st (by decide)
  obtain ⟨map, store, config⟩ := releaseUnit_of_open (p := reported p c j slot) (r := c.unitRef)
    (fun u x b e ref found record => stays u x b e ref (locate_congr st _ ▸ found) (recordAt_congr st _ ▸ record))
    c.head (unitMarkOf j) (j.verdict == .pass)
  obtain ⟨new, grown⟩ := keeps_written serves c j .growth (by decide)
  let released := setSelectionNumber (releaseUnit (reported p c j slot) c.head c.unitRef (unitMarkOf j)
    (some (j.verdict == .pass))) c (slot.map fun _ => p.store.wb)
  have numberedMap : released.map = p.map :=
    (keeps_setSelectionNumber _ c _ .map (by decide)).trans (map.trans (before .map (by decide)))
  have numberedStore : released.store = (written p c j slot).store :=
    (keeps_setSelectionNumber _ c _ .store (by decide)).trans (store.trans (keeps_reported p c j slot .store (by decide)))
  have service : inService released = inService p := by
    rw [inService_eq_serves, inService_eq_serves, numberedStore, grown.serves_eq]
  have wires : (released.st.lanes.get c.head).config = (p.st.lanes.get c.head).config :=
    (setSelectionNumber_config _ c _ c.head).trans ((config c.head).trans (by rw [st]))
  have wanted : prefetches released c key ↔ prefetches p c key := by
    rw [prefetches, prefetches, numberedMap, service]
  have request : fetchRequest released key = fetchRequest p key := by
    rw [fetchRequest, fetchRequest, numberedStore, grown.config]
  rw [← wires] at next
  obtain ⟨endMap, endStore⟩ := issueEnd_map_store (releaseUnit (reported p c j slot) c.head c.unitRef (unitMarkOf j)
    (some (j.verdict == .pass))) c.head i c j (slot.map fun _ => p.store.wb)
  rw [issueVerdict_eq, endMap, endStore]
  change (prefetch released c).map.slots = _ ∧ (_ → (prefetch released c).map.fetches = _ ∧
    (prefetch released c).store.queue = _ ∧ (prefetch released c).map.counters = _) ∧
    (_ → (prefetch released c).map = _ ∧ (prefetch released c).store.queue = _)
  refine ⟨?_, fun fetched => ?_, fun skipped => ?_⟩
  · rw [keeps_prefetch released c .mapSlots (by decide), numberedMap]
  · rw [prefetch_of_wanted next (wanted.2 fetched), ← numberedStore, ← request, ← numberedMap]
    exact ⟨by simp [countMap, startFetch], (enqueue_spec released _).1, by simp [countMap, startFetch]⟩
  · rw [prefetch_of_unwanted next fun h => skipped (wanted.1 h), numberedMap, numberedStore]
    exact ⟨rfl, rfl⟩

/-- The mark of the verdict, and one reference less (R22, R23). -/
def releasedUnit (j : Judgement) (e : UnitEntry) : UnitEntry :=
  { e with
    suspectMark := e.suspectMark || (j.verdict != .pass && j.action != .holdReject)
    rejectMark := e.rejectMark || (j.verdict != .pass && j.action == .holdReject)
    refs := e.refs - 1 }

theorem addMark_unitMarkOf (j : Judgement) (e : UnitEntry) :
    { addMark (unitMarkOf j) e with refs := e.refs - 1 } = releasedUnit j e := by
  unfold unitMarkOf releasedUnit
  by_cases pass : j.verdict = .pass
  · simp [pass, addMark]
  · cases action : j.action <;> simp [pass, addMark]

/-- The strip's count of the bond (R23). -/
def countedBond (j : Judgement) (b : Strip) : Strip :=
  { b with
    passed := if j.verdict = .pass then inc b.passed else b.passed
    failed := if j.verdict = .pass then b.failed else inc b.failed }

/-- The strip of an ACTIVE unit after the issue (R23, R24). -/
theorem recordAt_issueVerdict_of_active (serves : slot.isSome = true → inService p = true) {u : UnitRef} {x : Place}
    {b : Strip} {e : UnitEntry} (ref : c.unitRef = some u) (found : locate p u.strip = some x)
    (record : recordAt p x = some b) (unit : b.units[u.unit]? = some e) (active : e.status = .active) (h : Side)
    (i : Fin 4) :
    recordAt (issueVerdict p h i c j slot) x = some (numbered c u (slot.map fun _ => p.store.wb)
      { countedBond j b with units := b.units.set u.unit (releasedUnit j e) }) := by
  have st : (reported p c j slot).st = p.st := keeps_beforeRelease serves .st (by decide)
  have found' := (locate_congr st u.strip).trans found
  have record' := (recordAt_congr st x).trans record
  rw [issueVerdict_eq, recordAt_congr (issueEnd_st ..), ref, releaseUnit_of_active found' record' unit active,
    setSelectionNumber_of_found ref ((locate_letGo ..).trans found'), recordAt_modRecord_same, recordAt_letGo record' unit,
    addMark_unitMarkOf]
  simp [countedBond]

/-- The strip of a CLOSING unit that the issue finishes, and where its selection entries went (R87, R101, R103). -/
theorem issueVerdict_of_done (serves : slot.isSome = true → inService p = true) {u : UnitRef} {l : Side}
    {b : Strip} {e : UnitEntry} {final : UnitStatus} (ref : c.unitRef = some u)
    (found : locate p u.strip = some (.lane l .bond)) (record : recordAt p (.lane l .bond) = some b)
    (unit : b.units[u.unit]? = some e) (closing : e.status = .closing) (last : e.refs ≤ 1)
    (status : final = finalStatus (releasedUnit j e) (p.st.lanes.get b.lane).config.wires) (h : Side) (i : Fin 4) :
    let q := issueVerdict p h i c j slot
    let taken := b.selection.filter fun y => y.unit == u.unit
    (∃ z : Position, (z = .bond ∨ (z = .exit ∧ (p.st.lanes.get l).moveAsk ≠ none)) ∧
      recordAt q (.lane l z) = some { countedBond j b with
        units := b.units.set u.unit { releasedUnit j e with status := final }
        selection := b.selection.filter fun y => y.unit != u.unit }) ∧
    (final = .reject → q.pru.pulls = p.pru.pulls ∧
      q.pru.counters.selDropped = incMany taken.length p.pru.counters.selDropped) ∧
    (final ≠ .reject → (∀ y ∈ taken, y.pullClass ≠ none) → taken.Pairwise (fun y z => y.wire ≠ z.wire) →
      (∀ y ∈ taken, ∀ z ∈ p.pru.pulls, ¬(z.strip = b.number ∧ z.unit = u.unit ∧ z.wire = y.wire)) →
      p.pru.pulls.length + taken.length ≤ 64 →
      q.pru.pulls = p.pru.pulls ++ taken.map (pullOf b.number b.lane)) := by
  intro q taken
  have before := keeps_beforeRelease (c := c) (j := j) serves
  have st : (reported p c j slot).st = p.st := before .st (by decide)
  have pru : (reported p c j slot).pru = p.pru := before .pru (by decide)
  have record' := (recordAt_congr st _).trans record
  have marked := (addMark_unitMarkOf j e).symm
  have released := releaseUnit_of_done (passed := j.verdict == .pass) ((locate_congr st u.strip).trans found) record' unit
    closing last h marked (status.trans (by rw [st]))
  have ended : q = issueEnd (examineMove (pullsOfUnit (closedAt (reported p c j slot) l u.unit (unitMarkOf j)
      (j.verdict == .pass) final) b.number b.lane final taken) l) h i c j (slot.map fun _ => p.store.wb) := by
    rw [← released, ← ref]
    exact issueVerdict_eq p h i c j slot
  have qPru := keeps_issueEnd (examineMove (pullsOfUnit (closedAt (reported p c j slot) l u.unit (unitMarkOf j)
      (j.verdict == .pass) final) b.number b.lane final taken) l) h i c j (slot.map fun _ => p.store.wb) .pru (by decide)
  rw [ended, qPru]
  refine ⟨?_, fun reject => ?_, fun good named apart fresh room => ?_⟩
  · obtain ⟨z, place, stands⟩ := recordAt_of_done (passed := j.verdict == .pass) (final := final) record' unit marked taken
    rw [st] at place
    refine ⟨z, place, ?_⟩
    rw [recordAt_congr (issueEnd_st ..), recordAt_setSelectionNumber_of_absent ref stands]
    · simp [finished, countedBond]
    · intro y kept
      simpa using (List.mem_filter.1 kept).2
  · subst reject
    rw [← pru]
    exact pulls_of_reject taken b.number b.lane
  · rw [← pru] at fresh room ⊢
    exact pulls_of_good good b.lane (fun y hy => ⟨named y hy, by simpa using (List.mem_filter.1 hy).2⟩) apart fresh room

end Issue

theorem issueSlot_serves (p : Part) (h : Side) : (issueSlot p h).isSome = true → inService p = true := by
  unfold issueSlot
  split
  next serves => exact fun _ => serves
  next => exact fun none => by cases none

theorem issueSlot_map (p : Part) (h : Side) :
    (issueSlot p h).map (fun _ => p.store.wb) = if inService p then some p.store.wb else none := by
  unfold issueSlot
  split <;> rfl

theorem issueSlot_elim (p : Part) (h : Side) (s : Two (Option (BitVec 32))) :
    (issueSlot p h).elim s (fun x => s.set x (some p.store.wb)) =
      if inService p then s.set (lowestFree (p.bm.channels.get h).slots) (some p.store.wb) else s := by
  unfold issueSlot
  split <;> rfl

theorem written_issueSlot (p : Part) (c : Context) (j : Judgement) (h : Side) :
    written p c j (issueSlot p h) =
      if inService p then writeBondRecord p c j (lowestFree (p.bm.channels.get h).slots) else p := by
  unfold issueSlot
  split <;> rfl

/-- The BOND_WRITE that an issue in service queues (R63), and none out of service. -/
def bondWrites (p : Part) (c : Context) (j : Judgement) : List Request :=
  if inService p then
    [{ kind := .bondWrite c.head (lowestFree (p.bm.channels.get c.head).slots)
       addr := p.store.config.bondBase + 24 * (p.store.wb.toNat % p.store.config.bondCap)
       len := 24, data := bondRecordBytes p.store.wb c j }] else []

theorem written_store (p : Part) (c : Context) (j : Judgement) :
    (written p c j (issueSlot p c.head)).store.queue = p.store.queue ++ bondWrites p c j ∧
      (written p c j (issueSlot p c.head)).store.wb = if inService p then p.store.wb + 1 else p.store.wb := by
  rw [written_issueSlot, bondWrites]
  split
  next =>
    obtain ⟨wb, queue, -, -⟩ := bondRecordTakesTheNextNumber p c j (lowestFree (p.bm.channels.get c.head).slots)
    exact ⟨queue, wb⟩
  next => exact ⟨(List.append_nil _).symm, rfl⟩

/-- Settles O36: R19's conditions, then the effects of R20 clause by clause. -/
theorem issueNeedsItsThreeConditions : Obligations.IssueNeedsItsThreeConditions := by
  intro p h
  refine ⟨issueOne_ne_none_iff p h, ?_⟩
  intro q i rest c j issued order context state head
  subst head
  have oldest := (oldestJudged_eq_some_iff _ i c j).2 ⟨rest, order, context, state⟩
  obtain ⟨on, -, room⟩ := issueOne_ready issued
  rw [issueOne_of_ready on oldest room] at issued
  cases issued
  have serves := issueSlot_serves p c.head
  have number := issueSlot_map p c.head
  have record := written_issueSlot p c j c.head
  obtain ⟨queued, nextNumber⟩ := written_store p c j
  have channels := issueVerdict_channels (c := c) (j := j) serves i
  rw [issueSlot_elim] at channels
  have own := congrArg (fun x => Two.get x c.head) channels
  have other := congrArg (fun x => Two.get x c.head.other) channels
  simp only [Two.get_set_same, Two.get_set_other] at own other
  obtain ⟨grown, out⟩ := issueVerdict_queue (p := p) (c := c) (j := j) (slot := issueSlot p c.head) c.head i
  obtain ⟨noticed, unnoticed⟩ := issueVerdict_outbound (j := j) (c := c) serves c.head i
  have groups : (issueVerdict p c.head i c j (issueSlot p c.head)).bm.groups = p.bm.groups :=
    keeps_issueVerdict serves c.head i c j .groups (by decide)
  have alarm := issueVerdict_alarm (c := c) (j := j) serves i
  have quiet := issueVerdict_heads_of_quiet (c := c) (j := j) serves c.head i
  have map := fun stays => issueVerdict_map (c := c) (j := j) serves stays i (nextKey_eq c _).symm
  have wb := issueVerdict_wb (p := p) (c := c) (j := j) (slot := issueSlot p c.head) c.head i
  rw [nextNumber] at wb
  rw [queued] at grown map out
  rw [record, number] at noticed
  rw [record] at unnoticed out
  rw [alarmKindOf_eq_ite] at alarm
  have active := fun u x b e ref found record unit isActive => recordAt_issueVerdict_of_active (c := c) (j := j) serves
    (u := u) (x := x) (b := b) (e := e) ref found record unit isActive c.head i
  have done := fun u l b e ref found record unit closing last => issueVerdict_of_done (c := c) (j := j) serves (u := u)
    (l := l) (b := b) (e := e) ref found record unit closing last rfl c.head i
  rw [number] at active
  generalize issueVerdict p c.head i c j (issueSlot p c.head) = q at *
  refine ⟨?_, fun k other => ?_, ?_, ?_, ?_, ?_, other, groups, wb, ?_, grown, fun off => ?_, noticed, fun _ => unnoticed,
    fun ⟨failed, action⟩ => ?_, quiet, ?_, map, fun lost => ?_, fun u x b e ref found record unit => ⟨?_, ?_, ?_⟩⟩
  · exact (congrArg (fun x => x.contexts.get i) own).trans (vset_get_same ..)
  · exact (congrArg (fun x => x.contexts.get k) own).trans (vset_get_other _ _ _ _ other)
  · exact congrArg Channel.order own
  · exact congrArg Channel.last own
  · exact congrArg (fun x => x.counters.issued) own
  · exact congrArg (fun x => x.counters.failed) own
  · exact congrArg Channel.slots own
  · have none : bondWrites p c j = [] := if_neg (by simp [off])
    rw [if_neg (by simp [off]), none, List.append_nil] at out
    exact out off
  · obtain ⟨listed, heads⟩ := alarm failed action
    exact ⟨listed, heads c.head⟩
  · by_cases alarmed : j.verdict ≠ .pass ∧ j.action ≠ .log
    · obtain ⟨-, heads⟩ := alarm alarmed.1 alarmed.2
      rw [← alarmKindOf_eq_ite] at heads
      exact (heads c.head.other).trans (addHeadReason_other (bondAlarm_of_alarmKindOf _) ..)
    · rw [quiet alarmed]
  · have outside : (c.unitRef.bind fun u => locate p u.strip) = none := by
      rcases lost with ref | ⟨u, ref, absent⟩
      · rw [ref]; rfl
      · rw [ref]; exact absent
    exact (congrArg (fun x => x.counters.outsideUnit) own).trans (if_pos outside)
  · have inside : (c.unitRef.bind fun u => locate p u.strip) ≠ none := by simp [ref, found]
    exact (congrArg (fun x => x.counters.outsideUnit) own).trans (if_neg inside)
  · intro isActive
    refine (active u x b e ref found record unit isActive).trans (congrArg some ?_)
    unfold numbered
    cases c.phase <;> rfl
  · rintro l rfl closing last
    exact done u l b e ref found record unit closing last

end Sys2Proof.Machine
end
